-- ==== Sys2Proof/Word.lean ====
section
/-! DEFINITION. The block's plain data: a byte and a buffer (00_scope.md R8, R10, R11). -/

namespace Sys2Proof

/-- One register byte, one bus address, one operation selector: 8 bits (00_scope.md R7 `REG_WIDTH`,
`ADDR_WIDTH`; 30_encoding.md R80). Bit 0 is the least significant (R8). -/
abbrev Byte := BitVec 8

/-- A finite sequence of bytes (00_scope.md R11). `buf[0]` is the head. -/
abbrev Buf := List Byte

/-- A Bool as the bit 0 or 1, the way the encodes write it (42_control.md R131 "Bool as 0/1"). -/
def boolInt (x : Bool) : Int := if x then 1 else 0

/-- A Bool as a byte holding 0 or 1. -/
def boolByte (x : Bool) : Byte := if x then 1 else 0

end Sys2Proof
end

