-- ==== Sys2Proof/Config.lean ====
section
/-! DEFINITION. What construction and the environment fix, and the spec leaves open: the construction
arguments (00_scope.md R7) and the bus collaborator's answers (20_memory.md R64), as constants without a
body, so that no proof can see a value. -/

namespace Sys2Proof

/-- `HourMode` of 30_encoding.md R82. -/
inductive HourMode where
  | h24
  | h12
deriving DecidableEq, Repr, Inhabited

/-- One transaction on the bus port (00_scope.md R14): `MemRead(addr, n)`, or `MemWrite(addr, n, v)` with
`n = len(v)`. -/
inductive Transaction where
  | read (addr : Byte) (n : Nat)
  | write (addr : Byte) (data : Buf)
deriving DecidableEq, Repr

/-- What the bus collaborator answers to one transaction (20_memory.md R64, 60_exceptions.md R241): it
completes, a read then bringing a buffer (a write's completion carries no data, and the buffer is not
looked at), or it is rejected, with the collaborator's message if there is one. -/
inductive BusReply where
  | ok (buf : Buf)
  | error (message : Option String)
deriving DecidableEq, Repr, Inhabited

/-- `P_CENTURY` (R7): a construction argument with no default (92_eei_decisions.md D2). Log 1. -/
opaque Config.pCentury : Int

/-- `P_HOUR_MODE` (R7): a construction argument with no default (92_eei_decisions.md D2). Log 1. -/
opaque Config.pHourMode : HourMode

/-- The free draw of `P_BUS` (20_memory.md R64): the answer to the last transaction of the given history
(oldest first). Nothing constrains it: a read may return any buffer of any length, or fail, whatever was
written before (R64, R67, R68; 93_implementation_defined.md I1-I4). Log 2. -/
opaque Config.busReply : List Transaction → BusReply

end Sys2Proof
end

