-- ==== Sys2Proof/Syntax.lean ====
section
/-! DEFINITION. The syntax of the block: operand types and records (30_encoding.md R82, R83), the result
records the operations answer with, the request as it is issued (R80), and the operations themselves: `Instr`,
one constructor per row of opcode_table.json, its arguments the row's operand record with every default
filled in. -/

namespace Sys2Proof

/-! ## Scalar types (R82) -/

/-- `FieldDesc` (R9, R82): `pos` is the index of the field's MOST significant bit, `w` its width. -/
structure FieldDesc where
  pos : Int
  w : Int
deriving DecidableEq, Repr

/-- `CapSel`: the decoded capacitor selection. -/
inductive CapSel where
  | cap7pF
  | cap12_5pF
deriving DecidableEq, Repr

/-- `CapSelIn`: the capacitor selection of an encode; `other` is any value outside the known set. Log 10. -/
inductive CapSelIn where
  | cap7pF
  | cap12_5pF
  | other (tag : Int)
deriving DecidableEq, Repr

/-- `OffsetMode`. -/
inductive OffsetMode where
  | everyTwoHours
  | everyMinute
deriving DecidableEq, Repr

/-- `Unit` of R82: a duration unit. -/
inductive TimeUnit where
  | microseconds
  | milliseconds
  | seconds
  | minutes
  | hours
deriving DecidableEq, Repr

/-- `WeekdayName` (41_primitives.md R110). -/
inductive WeekdayName where
  | sunday | monday | tuesday | wednesday | thursday | friday | saturday
deriving DecidableEq, Repr

/-- `MonthName` (41_primitives.md R111). -/
inductive MonthName where
  | january | february | march | april | may | june
  | july | august | september | october | november | december
deriving DecidableEq, Repr

/-- `CofName` (44_offset_timer.md R184): the CLOCKOUT frequencies. -/
inductive CofName where
  | clk32768Hz | clk16384Hz | clk8192Hz | clk4096Hz | clk1024Hz | clk32Hz | clk1Hz | clkDisabled
deriving DecidableEq, Repr

/-- `TacName` (44_offset_timer.md R185): the timer-A modes. -/
inductive TacName where
  | taDisabled | taCountdown | taWatchdog | taDisabledAlt
deriving DecidableEq, Repr

/-- `SrcName` (44_offset_timer.md R188): the source clocks. -/
inductive SrcName where
  | src4096Hz | src64Hz | src1Hz | src1_60Hz | src1_3600Hz
deriving DecidableEq, Repr

/-- `Code2` (R82): an integer 0..3, typed. -/
abbrev Code2 := BitVec 2

/-- `Code3` (R82): an integer 0..7, typed. -/
abbrev Code3 := BitVec 3

/-! ## Input records (R83), defaults filled in -/

structure Control1In where
  capacitorSelection : CapSelIn
  stop : Bool
  twelveHourMode : Bool
  secondInterruptEnabled : Bool
  alarmInterruptEnabled : Bool
  correctionInterruptEnabled : Bool
deriving DecidableEq, Repr

structure Control2In where
  watchdogAInterruptEnabled : Bool
  countdownAInterruptEnabled : Bool
  countdownBInterruptEnabled : Bool
  clearCountdownAFlag : Bool
  clearCountdownBFlag : Bool
  clearSecondFlag : Bool
  clearAlarmFlag : Bool
deriving DecidableEq, Repr

structure Control3In where
  pmBatteryLowDetectionEnabled : Bool
  pmSwitchoverEnabled : Bool
  pmDirectSwitchingEnabled : Bool
  switchoverInterruptEnabled : Bool
  batteryLowInterruptEnabled : Bool
  clearBatterySwitchoverFlag : Bool
deriving DecidableEq, Repr

structure TimeIn where
  second : Int
  minute : Int
  hour : Int
  pm : Option Bool
  day : Int
  weekdayValue : Int
  monthsValue : Int
  year4digit : Int
deriving DecidableEq, Repr

structure AlarmMinuteIn where
  minute : Int
  minuteEnabled : Bool
deriving DecidableEq, Repr

structure AlarmHourIn where
  hour : Int
  pm : Option Bool
  hourEnabled : Bool
deriving DecidableEq, Repr

structure AlarmDayIn where
  day : Int
  dayEnabled : Bool
deriving DecidableEq, Repr

structure AlarmWeekdayIn where
  weekdayValue : Int
  weekdayEnabled : Bool
deriving DecidableEq, Repr

structure AlarmIn where
  minute : Int
  minuteEnabled : Bool
  hour : Int
  pm : Option Bool
  hourEnabled : Bool
  day : Int
  dayEnabled : Bool
  weekdayValue : Int
  weekdayEnabled : Bool
deriving DecidableEq, Repr

structure OffsetIn where
  mode : OffsetMode
  offsetValue : Int
deriving DecidableEq, Repr

structure TimerControlIn where
  timerAInterruptPulseMode : Bool
  timerBInterruptPulseMode : Bool
  clockOutFrequency : Code3
  timerAControl : Code2
  countdownTimerBEnabled : Bool
deriving DecidableEq, Repr

structure TimerAFreqIn where
  sourceClock : Code3
deriving DecidableEq, Repr

structure TimerBFreqIn where
  pulseWidth : Code3
  sourceClock : Code3
deriving DecidableEq, Repr

structure TimerValueIn where
  value : Int
deriving DecidableEq, Repr

structure TimerBlockIn where
  control : TimerControlIn
  timerAFrequency : TimerAFreqIn
  timerAValue : TimerValueIn
  timerBFrequency : TimerBFreqIn
  timerBValue : TimerValueIn
deriving DecidableEq, Repr

/-! ## Result records (R83) -/

structure Control1 where
  capacitorSelection : CapSel
  stop : Bool
  twelveHourMode : Bool
  secondInterruptEnabled : Bool
  alarmInterruptEnabled : Bool
  correctionInterruptEnabled : Bool
deriving DecidableEq, Repr

structure Control2 where
  watchdogAFlag : Bool
  countdownAFlag : Bool
  countdownBFlag : Bool
  secondFlag : Bool
  alarmFlag : Bool
  watchdogAInterruptEnabled : Bool
  countdownAInterruptEnabled : Bool
  countdownBInterruptEnabled : Bool
deriving DecidableEq, Repr

structure Control3 where
  pmBatteryLowDetectionEnabled : Bool
  pmSwitchoverEnabled : Bool
  pmDirectSwitchingEnabled : Option Bool
  batterySwitchoverFlag : Bool
  batteryLowFlag : Bool
  switchoverInterruptEnabled : Bool
  batteryLowInterruptEnabled : Bool
deriving DecidableEq, Repr

structure Profile where
  control1 : Control1
  control2 : Control2
  control3 : Control3
deriving DecidableEq, Repr

structure Time where
  integrity : Bool
  second : Int
  minute : Int
  hour : Int
  hour24 : Int
  pm : Option Bool
  day : Int
  weekdayValue : Int
  weekday : Option WeekdayName
  monthsValue : Int
  month : Option MonthName
  year4digit : Int
deriving DecidableEq, Repr

structure AlarmMinute where
  minute : Int
  minuteEnabled : Bool
deriving DecidableEq, Repr

structure AlarmHour where
  hour : Int
  hourEnabled : Bool
  pm : Option Bool
  hour24 : Option Int
deriving DecidableEq, Repr

structure AlarmDay where
  day : Int
  dayEnabled : Bool
deriving DecidableEq, Repr

structure AlarmWeekday where
  weekdayValue : Int
  weekdayEnabled : Bool
deriving DecidableEq, Repr

structure Alarm where
  minute : Int
  minuteEnabled : Bool
  hour : Int
  hourEnabled : Bool
  pm : Option Bool
  hour24 : Option Int
  day : Int
  dayEnabled : Bool
  weekdayValue : Int
  weekdayEnabled : Bool
deriving DecidableEq, Repr

structure Offset where
  mode : OffsetMode
  offsetValue : Int
  offsetPPM : Rat
deriving DecidableEq, Repr

/-- `{code: Code3, name: CofName}` of `TimerControl`. -/
structure CodedCof where
  code : Code3
  name : CofName
deriving DecidableEq, Repr

/-- `{code: Code2, name: TacName}` of `TimerControl`. -/
structure CodedTac where
  code : Code2
  name : TacName
deriving DecidableEq, Repr

/-- `{code: Code3, name: Opt SrcName}` of the timer frequency records. -/
structure CodedSrc where
  code : Code3
  name : Option SrcName
deriving DecidableEq, Repr

/-- `{code: Code3, durationMs: Rat}` of `TimerBFreq`. -/
structure CodedWidth where
  code : Code3
  durationMs : Rat
deriving DecidableEq, Repr

structure TimerControl where
  timerAInterruptPulseMode : Bool
  timerBInterruptPulseMode : Bool
  clockOutFrequency : CodedCof
  timerAControl : CodedTac
  countdownTimerBEnabled : Bool
deriving DecidableEq, Repr

structure TimerAFreq where
  sourceClock : CodedSrc
deriving DecidableEq, Repr

structure TimerBFreq where
  pulseWidth : CodedWidth
  sourceClock : CodedSrc
deriving DecidableEq, Repr

structure TimerValue where
  value : Byte
deriving DecidableEq, Repr

structure TimerBlock where
  control : TimerControl
  timerAFrequency : TimerAFreq
  timerAValue : TimerValue
  timerBFrequency : TimerBFreq
  timerBValue : TimerValue
deriving DecidableEq, Repr

structure Duration where
  microseconds : Rat
  milliseconds : Rat
  seconds : Rat
  minutes : Rat
  hours : Rat
  preferredUnits : List TimeUnit
deriving DecidableEq, Repr

/-- One row of the source-clock table `SRC` that has a mapping (44_offset_timer.md R188). -/
structure SrcRow where
  name : SrcName
  hz : Rat
  preferredUnits : List TimeUnit
deriving DecidableEq, Repr

/-- The result an operation answers with, `Ok(result)` (R80, R85): one case per result type of R85. -/
inductive Value where
  | unit
  | int (v : Int)
  | byte (b : Byte)
  | buf (b : Buf)
  | weekdayName (n : Option WeekdayName)
  | monthName (n : Option MonthName)
  | control1 (c : Control1)
  | control2 (c : Control2)
  | control3 (c : Control3)
  | profile (p : Profile)
  | time (t : Time)
  | alarmMinute (a : AlarmMinute)
  | alarmHour (a : AlarmHour)
  | alarmDay (a : AlarmDay)
  | alarmWeekday (a : AlarmWeekday)
  | alarm (a : Alarm)
  | offset (o : Offset)
  | timerControl (c : TimerControl)
  | timerAFreq (f : TimerAFreq)
  | timerBFreq (f : TimerBFreq)
  | timerValue (v : TimerValue)
  | timerBlock (t : TimerBlock)
  | duration (d : Duration)
deriving DecidableEq, Repr

/-! ## The operations -/

/-- The 61 operations of 30_encoding.md R85 with their operand records (R83), one constructor per row. -/
inductive Instr where
  -- primitives (41_primitives.md)
  | bitsExtract (b : Byte) (f : FieldDesc)
  | bitsPack (fields : List FieldDesc) (values : List Int)
  | bcdDecode (b : Byte) (tens units : FieldDesc)
  | bcdEncode (v : Int) (tens units : FieldDesc)
  | tc7Decode (raw : Int)
  | tc7Encode (v : Int)
  | yearDecode (y2 century : Int)
  | yearEncode (year4digit century : Int)
  | hourTo24 (hour : Int) (pm : Bool)
  | weekdayName (idx : Int)
  | monthName (monthsValue : Int)
  -- control registers (42_control.md)
  | control1Decode (buf : Buf)
  | control1Encode (c : Control1In)
  | control2Decode (buf : Buf)
  | control2Encode (c : Control2In)
  | control3Decode (buf : Buf)
  | control3Encode (c : Control3In)
  | profileDecode (buf : Buf)
  -- time and alarm registers (43_time_alarm.md)
  | timeDecode (buf : Buf) (mode : HourMode) (century : Int)
  | timeEncode (t : TimeIn) (mode : HourMode) (century : Int)
  | alarmMinuteDecode (buf : Buf)
  | alarmMinuteEncode (a : AlarmMinuteIn)
  | alarmHourDecode (buf : Buf) (mode : HourMode)
  | alarmHourEncode (a : AlarmHourIn) (mode : HourMode)
  | alarmDayDecode (buf : Buf)
  | alarmDayEncode (a : AlarmDayIn)
  | alarmWeekdayDecode (buf : Buf)
  | alarmWeekdayEncode (a : AlarmWeekdayIn)
  | alarmDecode (buf : Buf) (mode : HourMode)
  | alarmEncode (a : AlarmIn) (mode : HourMode)
  -- offset register and timer configuration (44_offset_timer.md)
  | offsetDecode (buf : Buf)
  | offsetEncode (o : OffsetIn)
  | timerControlDecode (buf : Buf)
  | timerControlEncode (c : TimerControlIn)
  | timerAFreqDecode (buf : Buf)
  | timerAFreqEncode (f : TimerAFreqIn)
  | timerBFreqDecode (buf : Buf)
  | timerBFreqEncode (f : TimerBFreqIn)
  | timerValueDecode (buf : Buf)
  | timerValueEncode (v : TimerValueIn)
  | timerBlockDecode (buf : Buf)
  | timerBlockEncode (t : TimerBlockIn)
  | timerDuration (sourceClock ticks : Int)
  -- register marshalling (45_marshalling.md)
  | getProfile
  | setControl1 (c : Control1In)
  | setControl2 (c : Control2In)
  | setControl3 (c : Control3In)
  | getTime (mode : Option HourMode) (century : Option Int)
  | setTime (t : TimeIn) (mode : Option HourMode) (century : Option Int)
  | getAlarm (mode : Option HourMode)
  | setAlarm (a : AlarmIn) (mode : Option HourMode)
  | getOffset
  | setOffset (o : OffsetIn)
  | getTimer
  | setTimer (t : TimerBlockIn)
  | setTimerControl (c : TimerControlIn)
  | setTimerAFreq (f : TimerAFreqIn)
  | setTimerAValue (v : TimerValueIn)
  | setTimerBFreq (f : TimerBFreqIn)
  | setTimerBValue (v : TimerValueIn)
  | softReset
deriving DecidableEq, Repr

/-! ## Requests as issued (R80): records in which a field with a default may be omitted (R83, R90) -/

structure Control2Req where
  watchdogAInterruptEnabled : Bool
  countdownAInterruptEnabled : Bool
  countdownBInterruptEnabled : Bool
  clearCountdownAFlag : Option Bool
  clearCountdownBFlag : Option Bool
  clearSecondFlag : Option Bool
  clearAlarmFlag : Option Bool
deriving DecidableEq, Repr

structure Control3Req where
  pmBatteryLowDetectionEnabled : Bool
  pmSwitchoverEnabled : Bool
  pmDirectSwitchingEnabled : Bool
  switchoverInterruptEnabled : Bool
  batteryLowInterruptEnabled : Bool
  clearBatterySwitchoverFlag : Option Bool
deriving DecidableEq, Repr

structure AlarmMinuteReq where
  minute : Int
  minuteEnabled : Option Bool
deriving DecidableEq, Repr

structure AlarmHourReq where
  hour : Int
  pm : Option Bool
  hourEnabled : Option Bool
deriving DecidableEq, Repr

structure AlarmDayReq where
  day : Int
  dayEnabled : Option Bool
deriving DecidableEq, Repr

structure AlarmWeekdayReq where
  weekdayValue : Int
  weekdayEnabled : Option Bool
deriving DecidableEq, Repr

structure AlarmReq where
  minute : Int
  minuteEnabled : Option Bool
  hour : Int
  pm : Option Bool
  hourEnabled : Option Bool
  day : Int
  dayEnabled : Option Bool
  weekdayValue : Int
  weekdayEnabled : Option Bool
deriving DecidableEq, Repr

/-- The operand record of a request, one case per record shape of R85 (opcode_table.json's operand fields). -/
inductive OperandRecord where
  | empty
  | bitsExtract (b : Byte) (f : FieldDesc)
  | bitsPack (fields : List FieldDesc) (values : List Int)
  | bcdDecode (b : Byte) (tens units : FieldDesc)
  | bcdEncode (v : Int) (tens units : FieldDesc)
  | raw (raw : Int)
  | v (v : Int)
  | yearDecode (y2 century : Int)
  | yearEncode (year4digit century : Int)
  | hourPm (hour : Int) (pm : Bool)
  | idx (idx : Int)
  | monthsValue (monthsValue : Int)
  | buf (buf : Buf)
  | bufMode (buf : Buf) (mode : HourMode)
  | bufModeCentury (buf : Buf) (mode : HourMode) (century : Int)
  | control1 (c : Control1In)
  | control2 (c : Control2Req)
  | control3 (c : Control3Req)
  | time (t : TimeIn) (mode : HourMode) (century : Int)
  | alarmMinute (a : AlarmMinuteReq)
  | alarmHour (a : AlarmHourReq) (mode : HourMode)
  | alarmDay (a : AlarmDayReq)
  | alarmWeekday (a : AlarmWeekdayReq)
  | alarm (a : AlarmReq) (mode : HourMode)
  | offset (o : OffsetIn)
  | timerControl (c : TimerControlIn)
  | timerAFreq (f : TimerAFreqIn)
  | timerBFreq (f : TimerBFreqIn)
  | timerValue (v : TimerValueIn)
  | timerBlock (t : TimerBlockIn)
  | timerDuration (sourceClock ticks : Int)
  | modeCenturyOpt (mode : Option HourMode) (century : Option Int)
  | timeOpt (t : TimeIn) (mode : Option HourMode) (century : Option Int)
  | modeOpt (mode : Option HourMode)
  | alarmOpt (a : AlarmReq) (mode : Option HourMode)
deriving DecidableEq, Repr

/-- A request `(sel, ops)` (R80, format REQ): the 8-bit operation selector and the operand record. -/
structure Request where
  sel : Byte
  ops : OperandRecord
deriving DecidableEq, Repr

end Sys2Proof
end

