-- ==== Sys2Proof/WellFormed.lean ====
section
/-! DEFINITION. Which requests are well formed (30_encoding.md R80, R82, R85, R86): the selector names an
operation, and the record is that operation's. Every `Instr` is well formed by its types (R82: enumerations and
codes are typed, integers are range-checked by the operation that reads them); a request is not, because it pairs
a raw selector byte with a record. -/

namespace Sys2Proof

/-- The selector names an operation of R85; every other value is illegal (R86: 0x00, 0x0C-0x0F, 0x17-0x1F,
0x2C-0x2F, 0x3D-0x3F, 0x52-0xFF). -/
def selectorAssigned (sel : Byte) : Bool :=
  let n := sel.toNat
  (0x01 ≤ n && n ≤ 0x0B) || (0x10 ≤ n && n ≤ 0x16) || (0x20 ≤ n && n ≤ 0x2B) || (0x30 ≤ n && n ≤ 0x3C)
    || (0x40 ≤ n && n ≤ 0x51)

/-- The selectors whose operand record has the shape of `ops` (R85, column "operands"). -/
def selectorsOf (ops : OperandRecord) : List Nat :=
  match ops with
  | .empty => [0x40, 0x48, 0x4A, 0x51]
  | .bitsExtract _ _ => [0x01]
  | .bitsPack _ _ => [0x02]
  | .bcdDecode _ _ _ => [0x03]
  | .bcdEncode _ _ _ => [0x04]
  | .raw _ => [0x05]
  | .v _ => [0x06]
  | .yearDecode _ _ => [0x07]
  | .yearEncode _ _ => [0x08]
  | .hourPm _ _ => [0x09]
  | .idx _ => [0x0A]
  | .monthsValue _ => [0x0B]
  | .buf _ => [0x10, 0x12, 0x14, 0x16, 0x22, 0x26, 0x28, 0x30, 0x32, 0x34, 0x36, 0x38, 0x3A]
  | .bufMode _ _ => [0x24, 0x2A]
  | .bufModeCentury _ _ _ => [0x20]
  | .control1 _ => [0x11, 0x41]
  | .control2 _ => [0x13, 0x42]
  | .control3 _ => [0x15, 0x43]
  | .time _ _ _ => [0x21]
  | .alarmMinute _ => [0x23]
  | .alarmHour _ _ => [0x25]
  | .alarmDay _ => [0x27]
  | .alarmWeekday _ => [0x29]
  | .alarm _ _ => [0x2B]
  | .offset _ => [0x31, 0x49]
  | .timerControl _ => [0x33, 0x4C]
  | .timerAFreq _ => [0x35, 0x4D]
  | .timerBFreq _ => [0x37, 0x4F]
  | .timerValue _ => [0x39, 0x4E, 0x50]
  | .timerBlock _ => [0x3B, 0x4B]
  | .timerDuration _ _ => [0x3C]
  | .modeCenturyOpt _ _ => [0x44]
  | .timeOpt _ _ _ => [0x45]
  | .modeOpt _ => [0x46]
  | .alarmOpt _ _ => [0x47]

/-- The record is of the type the selector names (R80: "The selector alone says which record type follows"). -/
def recordMatches (sel : Byte) (ops : OperandRecord) : Bool :=
  (selectorsOf ops).contains sel.toNat

/-- A request the requester can write: its selector is assigned and its record is that selector's. -/
def Request.wellFormed (r : Request) : Bool :=
  selectorAssigned r.sel && recordMatches r.sel r.ops

/-- A program (45_marshalling.md R236) is well formed when each of its requests either is well formed or has a
selector that names no operation, which the block answers with `IllegalOperation` whatever the record (R86). -/
def programWellFormed (prog : List Request) : Bool :=
  prog.all fun r => r.wellFormed || !selectorAssigned r.sel

end Sys2Proof
end

