-- ==== Sys2Proof/Decode.lean ====
section
/-! DEFINITION. The decoder of requests, total on every selector byte and every record (30_encoding.md R80, R81,
R85, R86, R89), rejecting by name; the filling of defaults at the operation boundary (00_scope.md R12, 30_encoding.md
R83); and the encoder, from the same table. -/

namespace Sys2Proof

/-- What the decoder answers. -/
inductive Decoded where
  /-- The operation, its record's defaults filled in. -/
  | ok (i : Instr)
  /-- The selector names no operation (R86). -/
  | illegalSelector (sel : Byte)
  /-- The record is not of the selector's type: such a request cannot be written (R82). -/
  | operandMismatch (sel : Byte)
deriving DecidableEq, Repr

/-! ## Defaults (R83, 92_eei_decisions.md D13): every omitted clear intent and alarm enable is `false` -/

def Control2Req.fill (c : Control2Req) : Control2In :=
  { watchdogAInterruptEnabled := c.watchdogAInterruptEnabled
    countdownAInterruptEnabled := c.countdownAInterruptEnabled
    countdownBInterruptEnabled := c.countdownBInterruptEnabled
    clearCountdownAFlag := c.clearCountdownAFlag.getD false
    clearCountdownBFlag := c.clearCountdownBFlag.getD false
    clearSecondFlag := c.clearSecondFlag.getD false
    clearAlarmFlag := c.clearAlarmFlag.getD false }

def Control3Req.fill (c : Control3Req) : Control3In :=
  { pmBatteryLowDetectionEnabled := c.pmBatteryLowDetectionEnabled
    pmSwitchoverEnabled := c.pmSwitchoverEnabled
    pmDirectSwitchingEnabled := c.pmDirectSwitchingEnabled
    switchoverInterruptEnabled := c.switchoverInterruptEnabled
    batteryLowInterruptEnabled := c.batteryLowInterruptEnabled
    clearBatterySwitchoverFlag := c.clearBatterySwitchoverFlag.getD false }

def AlarmMinuteReq.fill (a : AlarmMinuteReq) : AlarmMinuteIn :=
  { minute := a.minute, minuteEnabled := a.minuteEnabled.getD false }

def AlarmHourReq.fill (a : AlarmHourReq) : AlarmHourIn :=
  { hour := a.hour, pm := a.pm, hourEnabled := a.hourEnabled.getD false }

def AlarmDayReq.fill (a : AlarmDayReq) : AlarmDayIn :=
  { day := a.day, dayEnabled := a.dayEnabled.getD false }

def AlarmWeekdayReq.fill (a : AlarmWeekdayReq) : AlarmWeekdayIn :=
  { weekdayValue := a.weekdayValue, weekdayEnabled := a.weekdayEnabled.getD false }

def AlarmReq.fill (a : AlarmReq) : AlarmIn :=
  { minute := a.minute, minuteEnabled := a.minuteEnabled.getD false
    hour := a.hour, pm := a.pm, hourEnabled := a.hourEnabled.getD false
    day := a.day, dayEnabled := a.dayEnabled.getD false
    weekdayValue := a.weekdayValue, weekdayEnabled := a.weekdayEnabled.getD false }

/-! ## The decoder -/

def bufOp (ops : OperandRecord) (k : Buf → Instr) : Option Instr :=
  match ops with
  | .buf b => some (k b)
  | _ => none

def bufModeOp (ops : OperandRecord) (k : Buf → HourMode → Instr) : Option Instr :=
  match ops with
  | .bufMode b m => some (k b m)
  | _ => none

def emptyOp (ops : OperandRecord) (i : Instr) : Option Instr :=
  match ops with
  | .empty => some i
  | _ => none

def control1Op (ops : OperandRecord) (k : Control1In → Instr) : Option Instr :=
  match ops with
  | .control1 c => some (k c)
  | _ => none

def control2Op (ops : OperandRecord) (k : Control2In → Instr) : Option Instr :=
  match ops with
  | .control2 c => some (k c.fill)
  | _ => none

def control3Op (ops : OperandRecord) (k : Control3In → Instr) : Option Instr :=
  match ops with
  | .control3 c => some (k c.fill)
  | _ => none

def offsetOp (ops : OperandRecord) (k : OffsetIn → Instr) : Option Instr :=
  match ops with
  | .offset o => some (k o)
  | _ => none

def timerControlOp (ops : OperandRecord) (k : TimerControlIn → Instr) : Option Instr :=
  match ops with
  | .timerControl c => some (k c)
  | _ => none

def timerAFreqOp (ops : OperandRecord) (k : TimerAFreqIn → Instr) : Option Instr :=
  match ops with
  | .timerAFreq f => some (k f)
  | _ => none

def timerBFreqOp (ops : OperandRecord) (k : TimerBFreqIn → Instr) : Option Instr :=
  match ops with
  | .timerBFreq f => some (k f)
  | _ => none

def timerValueOp (ops : OperandRecord) (k : TimerValueIn → Instr) : Option Instr :=
  match ops with
  | .timerValue v => some (k v)
  | _ => none

def timerBlockOp (ops : OperandRecord) (k : TimerBlockIn → Instr) : Option Instr :=
  match ops with
  | .timerBlock t => some (k t)
  | _ => none

def bitsExtractOp (ops : OperandRecord) : Option Instr :=
  match ops with
  | .bitsExtract b f => some (.bitsExtract b f)
  | _ => none

def bitsPackOp (ops : OperandRecord) : Option Instr :=
  match ops with
  | .bitsPack fs vs => some (.bitsPack fs vs)
  | _ => none

def bcdDecodeOp (ops : OperandRecord) : Option Instr :=
  match ops with
  | .bcdDecode b t u => some (.bcdDecode b t u)
  | _ => none

def bcdEncodeOp (ops : OperandRecord) : Option Instr :=
  match ops with
  | .bcdEncode v t u => some (.bcdEncode v t u)
  | _ => none

def tc7DecodeOp (ops : OperandRecord) : Option Instr :=
  match ops with
  | .raw r => some (.tc7Decode r)
  | _ => none

def tc7EncodeOp (ops : OperandRecord) : Option Instr :=
  match ops with
  | .v v => some (.tc7Encode v)
  | _ => none

def yearDecodeOp (ops : OperandRecord) : Option Instr :=
  match ops with
  | .yearDecode y c => some (.yearDecode y c)
  | _ => none

def yearEncodeOp (ops : OperandRecord) : Option Instr :=
  match ops with
  | .yearEncode y c => some (.yearEncode y c)
  | _ => none

def hourTo24Op (ops : OperandRecord) : Option Instr :=
  match ops with
  | .hourPm h p => some (.hourTo24 h p)
  | _ => none

def weekdayNameOp (ops : OperandRecord) : Option Instr :=
  match ops with
  | .idx x => some (.weekdayName x)
  | _ => none

def monthNameOp (ops : OperandRecord) : Option Instr :=
  match ops with
  | .monthsValue m => some (.monthName m)
  | _ => none

def timeDecodeOp (ops : OperandRecord) : Option Instr :=
  match ops with
  | .bufModeCentury b m c => some (.timeDecode b m c)
  | _ => none

def timeEncodeOp (ops : OperandRecord) : Option Instr :=
  match ops with
  | .time t m c => some (.timeEncode t m c)
  | _ => none

def alarmMinuteEncodeOp (ops : OperandRecord) : Option Instr :=
  match ops with
  | .alarmMinute a => some (.alarmMinuteEncode a.fill)
  | _ => none

def alarmHourEncodeOp (ops : OperandRecord) : Option Instr :=
  match ops with
  | .alarmHour a m => some (.alarmHourEncode a.fill m)
  | _ => none

def alarmDayEncodeOp (ops : OperandRecord) : Option Instr :=
  match ops with
  | .alarmDay a => some (.alarmDayEncode a.fill)
  | _ => none

def alarmWeekdayEncodeOp (ops : OperandRecord) : Option Instr :=
  match ops with
  | .alarmWeekday a => some (.alarmWeekdayEncode a.fill)
  | _ => none

def alarmEncodeOp (ops : OperandRecord) : Option Instr :=
  match ops with
  | .alarm a m => some (.alarmEncode a.fill m)
  | _ => none

def timerDurationOp (ops : OperandRecord) : Option Instr :=
  match ops with
  | .timerDuration c t => some (.timerDuration c t)
  | _ => none

def getTimeOp (ops : OperandRecord) : Option Instr :=
  match ops with
  | .modeCenturyOpt m c => some (.getTime m c)
  | _ => none

def setTimeOp (ops : OperandRecord) : Option Instr :=
  match ops with
  | .timeOpt t m c => some (.setTime t m c)
  | _ => none

def getAlarmOp (ops : OperandRecord) : Option Instr :=
  match ops with
  | .modeOpt m => some (.getAlarm m)
  | _ => none

def setAlarmOp (ops : OperandRecord) : Option Instr :=
  match ops with
  | .alarmOpt a m => some (.setAlarm a.fill m)
  | _ => none

/-- The operation map (R85): the selector's row read with the record; `none` where the selector names no
operation, `some none` where the record is not the row's. -/
def decodeRow (sel : Nat) (ops : OperandRecord) : Option (Option Instr) :=
  match sel with
  | 0x01 => some (bitsExtractOp ops)
  | 0x02 => some (bitsPackOp ops)
  | 0x03 => some (bcdDecodeOp ops)
  | 0x04 => some (bcdEncodeOp ops)
  | 0x05 => some (tc7DecodeOp ops)
  | 0x06 => some (tc7EncodeOp ops)
  | 0x07 => some (yearDecodeOp ops)
  | 0x08 => some (yearEncodeOp ops)
  | 0x09 => some (hourTo24Op ops)
  | 0x0A => some (weekdayNameOp ops)
  | 0x0B => some (monthNameOp ops)
  | 0x10 => some (bufOp ops .control1Decode)
  | 0x11 => some (control1Op ops .control1Encode)
  | 0x12 => some (bufOp ops .control2Decode)
  | 0x13 => some (control2Op ops .control2Encode)
  | 0x14 => some (bufOp ops .control3Decode)
  | 0x15 => some (control3Op ops .control3Encode)
  | 0x16 => some (bufOp ops .profileDecode)
  | 0x20 => some (timeDecodeOp ops)
  | 0x21 => some (timeEncodeOp ops)
  | 0x22 => some (bufOp ops .alarmMinuteDecode)
  | 0x23 => some (alarmMinuteEncodeOp ops)
  | 0x24 => some (bufModeOp ops .alarmHourDecode)
  | 0x25 => some (alarmHourEncodeOp ops)
  | 0x26 => some (bufOp ops .alarmDayDecode)
  | 0x27 => some (alarmDayEncodeOp ops)
  | 0x28 => some (bufOp ops .alarmWeekdayDecode)
  | 0x29 => some (alarmWeekdayEncodeOp ops)
  | 0x2A => some (bufModeOp ops .alarmDecode)
  | 0x2B => some (alarmEncodeOp ops)
  | 0x30 => some (bufOp ops .offsetDecode)
  | 0x31 => some (offsetOp ops .offsetEncode)
  | 0x32 => some (bufOp ops .timerControlDecode)
  | 0x33 => some (timerControlOp ops .timerControlEncode)
  | 0x34 => some (bufOp ops .timerAFreqDecode)
  | 0x35 => some (timerAFreqOp ops .timerAFreqEncode)
  | 0x36 => some (bufOp ops .timerBFreqDecode)
  | 0x37 => some (timerBFreqOp ops .timerBFreqEncode)
  | 0x38 => some (bufOp ops .timerValueDecode)
  | 0x39 => some (timerValueOp ops .timerValueEncode)
  | 0x3A => some (bufOp ops .timerBlockDecode)
  | 0x3B => some (timerBlockOp ops .timerBlockEncode)
  | 0x3C => some (timerDurationOp ops)
  | 0x40 => some (emptyOp ops .getProfile)
  | 0x41 => some (control1Op ops .setControl1)
  | 0x42 => some (control2Op ops .setControl2)
  | 0x43 => some (control3Op ops .setControl3)
  | 0x44 => some (getTimeOp ops)
  | 0x45 => some (setTimeOp ops)
  | 0x46 => some (getAlarmOp ops)
  | 0x47 => some (setAlarmOp ops)
  | 0x48 => some (emptyOp ops .getOffset)
  | 0x49 => some (offsetOp ops .setOffset)
  | 0x4A => some (emptyOp ops .getTimer)
  | 0x4B => some (timerBlockOp ops .setTimer)
  | 0x4C => some (timerControlOp ops .setTimerControl)
  | 0x4D => some (timerAFreqOp ops .setTimerAFreq)
  | 0x4E => some (timerValueOp ops .setTimerAValue)
  | 0x4F => some (timerBFreqOp ops .setTimerBFreq)
  | 0x50 => some (timerValueOp ops .setTimerBValue)
  | 0x51 => some (emptyOp ops .softReset)
  | _ => none

/-- The decoder: a request to an operation, or a rejection by name (R80, R81 step 1, R86). -/
def decode (r : Request) : Decoded :=
  match decodeRow r.sel.toNat r.ops with
  | none => .illegalSelector r.sel
  | some none => .operandMismatch r.sel
  | some (some i) => .ok i

/-! ## The encoder -/

def Control2In.explicit (c : Control2In) : Control2Req :=
  { watchdogAInterruptEnabled := c.watchdogAInterruptEnabled
    countdownAInterruptEnabled := c.countdownAInterruptEnabled
    countdownBInterruptEnabled := c.countdownBInterruptEnabled
    clearCountdownAFlag := some c.clearCountdownAFlag
    clearCountdownBFlag := some c.clearCountdownBFlag
    clearSecondFlag := some c.clearSecondFlag
    clearAlarmFlag := some c.clearAlarmFlag }

def Control3In.explicit (c : Control3In) : Control3Req :=
  { pmBatteryLowDetectionEnabled := c.pmBatteryLowDetectionEnabled
    pmSwitchoverEnabled := c.pmSwitchoverEnabled
    pmDirectSwitchingEnabled := c.pmDirectSwitchingEnabled
    switchoverInterruptEnabled := c.switchoverInterruptEnabled
    batteryLowInterruptEnabled := c.batteryLowInterruptEnabled
    clearBatterySwitchoverFlag := some c.clearBatterySwitchoverFlag }

def AlarmMinuteIn.explicit (a : AlarmMinuteIn) : AlarmMinuteReq :=
  { minute := a.minute, minuteEnabled := some a.minuteEnabled }

def AlarmHourIn.explicit (a : AlarmHourIn) : AlarmHourReq :=
  { hour := a.hour, pm := a.pm, hourEnabled := some a.hourEnabled }

def AlarmDayIn.explicit (a : AlarmDayIn) : AlarmDayReq :=
  { day := a.day, dayEnabled := some a.dayEnabled }

def AlarmWeekdayIn.explicit (a : AlarmWeekdayIn) : AlarmWeekdayReq :=
  { weekdayValue := a.weekdayValue, weekdayEnabled := some a.weekdayEnabled }

def AlarmIn.explicit (a : AlarmIn) : AlarmReq :=
  { minute := a.minute, minuteEnabled := some a.minuteEnabled
    hour := a.hour, pm := a.pm, hourEnabled := some a.hourEnabled
    day := a.day, dayEnabled := some a.dayEnabled
    weekdayValue := a.weekdayValue, weekdayEnabled := some a.weekdayEnabled }

/-- The encoder: the request that asks for an operation, every defaulted field written out (R85, R90). -/
def encode (i : Instr) : Request :=
  match i with
  | .bitsExtract b f => ⟨0x01, .bitsExtract b f⟩
  | .bitsPack fs vs => ⟨0x02, .bitsPack fs vs⟩
  | .bcdDecode b t u => ⟨0x03, .bcdDecode b t u⟩
  | .bcdEncode v t u => ⟨0x04, .bcdEncode v t u⟩
  | .tc7Decode r => ⟨0x05, .raw r⟩
  | .tc7Encode v => ⟨0x06, .v v⟩
  | .yearDecode y c => ⟨0x07, .yearDecode y c⟩
  | .yearEncode y c => ⟨0x08, .yearEncode y c⟩
  | .hourTo24 h p => ⟨0x09, .hourPm h p⟩
  | .weekdayName x => ⟨0x0A, .idx x⟩
  | .monthName m => ⟨0x0B, .monthsValue m⟩
  | .control1Decode b => ⟨0x10, .buf b⟩
  | .control1Encode c => ⟨0x11, .control1 c⟩
  | .control2Decode b => ⟨0x12, .buf b⟩
  | .control2Encode c => ⟨0x13, .control2 c.explicit⟩
  | .control3Decode b => ⟨0x14, .buf b⟩
  | .control3Encode c => ⟨0x15, .control3 c.explicit⟩
  | .profileDecode b => ⟨0x16, .buf b⟩
  | .timeDecode b m c => ⟨0x20, .bufModeCentury b m c⟩
  | .timeEncode t m c => ⟨0x21, .time t m c⟩
  | .alarmMinuteDecode b => ⟨0x22, .buf b⟩
  | .alarmMinuteEncode a => ⟨0x23, .alarmMinute a.explicit⟩
  | .alarmHourDecode b m => ⟨0x24, .bufMode b m⟩
  | .alarmHourEncode a m => ⟨0x25, .alarmHour a.explicit m⟩
  | .alarmDayDecode b => ⟨0x26, .buf b⟩
  | .alarmDayEncode a => ⟨0x27, .alarmDay a.explicit⟩
  | .alarmWeekdayDecode b => ⟨0x28, .buf b⟩
  | .alarmWeekdayEncode a => ⟨0x29, .alarmWeekday a.explicit⟩
  | .alarmDecode b m => ⟨0x2A, .bufMode b m⟩
  | .alarmEncode a m => ⟨0x2B, .alarm a.explicit m⟩
  | .offsetDecode b => ⟨0x30, .buf b⟩
  | .offsetEncode o => ⟨0x31, .offset o⟩
  | .timerControlDecode b => ⟨0x32, .buf b⟩
  | .timerControlEncode c => ⟨0x33, .timerControl c⟩
  | .timerAFreqDecode b => ⟨0x34, .buf b⟩
  | .timerAFreqEncode f => ⟨0x35, .timerAFreq f⟩
  | .timerBFreqDecode b => ⟨0x36, .buf b⟩
  | .timerBFreqEncode f => ⟨0x37, .timerBFreq f⟩
  | .timerValueDecode b => ⟨0x38, .buf b⟩
  | .timerValueEncode v => ⟨0x39, .timerValue v⟩
  | .timerBlockDecode b => ⟨0x3A, .buf b⟩
  | .timerBlockEncode t => ⟨0x3B, .timerBlock t⟩
  | .timerDuration c t => ⟨0x3C, .timerDuration c t⟩
  | .getProfile => ⟨0x40, .empty⟩
  | .setControl1 c => ⟨0x41, .control1 c⟩
  | .setControl2 c => ⟨0x42, .control2 c.explicit⟩
  | .setControl3 c => ⟨0x43, .control3 c.explicit⟩
  | .getTime m c => ⟨0x44, .modeCenturyOpt m c⟩
  | .setTime t m c => ⟨0x45, .timeOpt t m c⟩
  | .getAlarm m => ⟨0x46, .modeOpt m⟩
  | .setAlarm a m => ⟨0x47, .alarmOpt a.explicit m⟩
  | .getOffset => ⟨0x48, .empty⟩
  | .setOffset o => ⟨0x49, .offset o⟩
  | .getTimer => ⟨0x4A, .empty⟩
  | .setTimer t => ⟨0x4B, .timerBlock t⟩
  | .setTimerControl c => ⟨0x4C, .timerControl c⟩
  | .setTimerAFreq f => ⟨0x4D, .timerAFreq f⟩
  | .setTimerAValue v => ⟨0x4E, .timerValue v⟩
  | .setTimerBFreq f => ⟨0x4F, .timerBFreq f⟩
  | .setTimerBValue v => ⟨0x50, .timerValue v⟩
  | .softReset => ⟨0x51, .empty⟩

/-- A record with every omitted default written out: the record the encoder would write (R83). -/
def OperandRecord.explicit (ops : OperandRecord) : OperandRecord :=
  match ops with
  | .control2 c => .control2 c.fill.explicit
  | .control3 c => .control3 c.fill.explicit
  | .alarmMinute a => .alarmMinute a.fill.explicit
  | .alarmHour a m => .alarmHour a.fill.explicit m
  | .alarmDay a => .alarmDay a.fill.explicit
  | .alarmWeekday a => .alarmWeekday a.fill.explicit
  | .alarm a m => .alarm a.fill.explicit m
  | .alarmOpt a m => .alarmOpt a.fill.explicit m
  | other => other

/-! ## A request from a selector alone

The opcode table numbers only the selector's 8 bits; the record is no bit string (R80). `zeroRecord` is the record
with every operand at zero: integers 0, Bools false, codes 0, descriptors (0,0), lists empty, enumerations at their
first token, optional operands present at zero, a buffer of zero bytes of the group's length (log 8). -/

def zeroBuf (n : Nat) : OperandRecord := .buf (List.replicate n 0)

def zeroControl1 : Control1In := ⟨.cap7pF, false, false, false, false, false⟩

def zeroControl2 : Control2Req := ⟨false, false, false, some false, some false, some false, some false⟩

def zeroControl3 : Control3Req := ⟨false, false, false, false, false, some false⟩

def zeroTime : TimeIn := ⟨0, 0, 0, some false, 0, 0, 0, 0⟩

def zeroAlarm : AlarmReq := ⟨0, some false, 0, some false, some false, 0, some false, 0, some false⟩

def zeroTimerControl : TimerControlIn := ⟨false, false, 0, 0, false⟩

def zeroTimerBlock : TimerBlockIn := ⟨zeroTimerControl, ⟨0⟩, ⟨0⟩, ⟨0, 0⟩, ⟨0⟩⟩

def zeroRecord (sel : Nat) : OperandRecord :=
  match sel with
  | 0x01 => .bitsExtract 0 ⟨0, 0⟩
  | 0x02 => .bitsPack [] []
  | 0x03 => .bcdDecode 0 ⟨0, 0⟩ ⟨0, 0⟩
  | 0x04 => .bcdEncode 0 ⟨0, 0⟩ ⟨0, 0⟩
  | 0x05 => .raw 0
  | 0x06 => .v 0
  | 0x07 => .yearDecode 0 0
  | 0x08 => .yearEncode 0 0
  | 0x09 => .hourPm 0 false
  | 0x0A => .idx 0
  | 0x0B => .monthsValue 0
  | 0x10 => zeroBuf 1
  | 0x11 => .control1 zeroControl1
  | 0x12 => zeroBuf 1
  | 0x13 => .control2 zeroControl2
  | 0x14 => zeroBuf 1
  | 0x15 => .control3 zeroControl3
  | 0x16 => zeroBuf 3
  | 0x20 => .bufModeCentury (List.replicate 7 0) .h24 0
  | 0x21 => .time zeroTime .h24 0
  | 0x22 => zeroBuf 1
  | 0x23 => .alarmMinute ⟨0, some false⟩
  | 0x24 => .bufMode [0] .h24
  | 0x25 => .alarmHour ⟨0, some false, some false⟩ .h24
  | 0x26 => zeroBuf 1
  | 0x27 => .alarmDay ⟨0, some false⟩
  | 0x28 => zeroBuf 1
  | 0x29 => .alarmWeekday ⟨0, some false⟩
  | 0x2A => .bufMode (List.replicate 4 0) .h24
  | 0x2B => .alarm zeroAlarm .h24
  | 0x30 => zeroBuf 1
  | 0x31 => .offset ⟨.everyTwoHours, 0⟩
  | 0x32 => zeroBuf 1
  | 0x33 => .timerControl zeroTimerControl
  | 0x34 => zeroBuf 1
  | 0x35 => .timerAFreq ⟨0⟩
  | 0x36 => zeroBuf 1
  | 0x37 => .timerBFreq ⟨0, 0⟩
  | 0x38 => zeroBuf 1
  | 0x39 => .timerValue ⟨0⟩
  | 0x3A => zeroBuf 5
  | 0x3B => .timerBlock zeroTimerBlock
  | 0x3C => .timerDuration 0 0
  | 0x41 => .control1 zeroControl1
  | 0x42 => .control2 zeroControl2
  | 0x43 => .control3 zeroControl3
  | 0x44 => .modeCenturyOpt (some .h24) (some 0)
  | 0x45 => .timeOpt zeroTime (some .h24) (some 0)
  | 0x46 => .modeOpt (some .h24)
  | 0x47 => .alarmOpt zeroAlarm (some .h24)
  | 0x49 => .offset ⟨.everyTwoHours, 0⟩
  | 0x4B => .timerBlock zeroTimerBlock
  | 0x4C => .timerControl zeroTimerControl
  | 0x4D => .timerAFreq ⟨0⟩
  | 0x4E => .timerValue ⟨0⟩
  | 0x4F => .timerBFreq ⟨0, 0⟩
  | 0x50 => .timerValue ⟨0⟩
  | _ => .empty

/-- The request whose selector is the table word `w` and whose record is all zero. -/
def tableRequest (w : Nat) : Request := ⟨BitVec.ofNat 8 w, zeroRecord w⟩

/-- The operation the decoder reads from a table word. A request has exactly one selector byte (R89), so a word
above 255 is no selector. -/
def decodeTableWord (_nbits w : Nat) : Option Instr :=
  if w < 256 then
    match decode (tableRequest w) with
    | .ok i => some i
    | _ => none
  else none

end Sys2Proof
end

