-- ==== Sys2Proof/Machine/State.lean ====
section
/-! DEFINITION. The machine's state: the block's configuration (10_state.md R20), its build profile and bus
(00_scope.md R7), the requester's program state (45_marshalling.md R236), and the record of bus transactions; the
error record (60_exceptions.md R240); faults and refusals; construction and reset (70_reset_and_hazards.md R260). -/

namespace Sys2Proof.Machine

/-! ## Errors (60_exceptions.md R240) -/

/-- The seven error kinds of R240. -/
inductive ErrorKind where
  | lengthError
  | rangeError
  | missingRequiredFieldError
  | unknownEnumError
  | notImplementedError
  | busError
  | illegalOperation
deriving DecidableEq, Repr

/-- The values of `info.field` (R240, R241): the operand or record field that failed. -/
inductive FieldName where
  | buf | f | fields | values | tens | units | v | raw
  | offsetValue | year4digit | powerMode
  | second | minute | hour | pm | day | weekdayValue | monthsValue
  | value | ticks | sourceClock | capacitorSelection
deriving DecidableEq, Repr

/-- The `info` record of an error: every field optional (R240). -/
structure ErrorInfo where
  field : Option FieldName
  message : Option String
  need : Option Nat
  got : Option Nat
  sel : Option Byte
deriving DecidableEq, Repr

/-- The error record `{kind, code, info}` (R240). Its `code` is the kind's number: `errorCode` in Ops.lean. -/
structure BlockError where
  kind : ErrorKind
  info : ErrorInfo
deriving DecidableEq, Repr

/-! ## The bus and the reference image (20_memory.md R64) -/

/-- Bytes by address, in one canonical form: see `Memory.wf` in Ops.lean. -/
abbrev Memory := List Host.Cell

/-- Which bus collaborator `P_BUS` (R7) the block was constructed with. -/
inductive Bus where
  /-- The free oracle of R64. `scheduled` are its answers to the coming transactions, in order; `none` is a
  transaction that is never answered (45_marshalling.md R233). Past their end every answer is a free draw
  (`Config.busReply`). Log 2, log 3. -/
  | oracle (scheduled : List (Option BusReply))
  /-- `REF_BUS` (R64): a plain store over `State.img`. -/
  | reference
  /-- `BUS_SHORT` (95_test_vectors.md 2.8): a read brings the first n−1 bytes; a write acts as `REF_BUS`. -/
  | short
  /-- `BUS_FAIL` (95_test_vectors.md 2.8): every transaction is answered with `BusError`. -/
  | fail
deriving DecidableEq, Repr

/-! ## The state -/

/-- The configuration state (R20): exactly two fields. -/
structure Cfg where
  century : Int
  hourMode : HourMode
deriving DecidableEq, Repr

/-- Where a run stands (45_marshalling.md R236): going on, returned `Done{trace}`, or returned
`Faulted{pc, error, trace}` (the pc and the trace are the state's own). -/
inductive RunStatus where
  | running
  | done
  | faulted (error : BlockError)
deriving DecidableEq, Repr

/-- The whole machine. INVENTORY.md lists each field with the rule that names it. -/
structure State where
  /-- The block's configuration (R20). No operation writes it. -/
  cfg : Cfg
  /-- `P_UNIMPLEMENTED_OPS` (R7, R87): selectors the build profile leaves out. No operation writes it. -/
  unimplemented : List Byte
  /-- The bus collaborator (R7, R64). -/
  bus : Bus
  /-- The image of `REF_BUS` (R64); `reference` and `short` read and write it, the oracle never does. -/
  img : Memory
  /-- The program (R236). -/
  prog : List Request
  /-- The program index (R22, R236). -/
  pc : Nat
  /-- The results of the requests so far (R236). -/
  trace : List Value
  /-- The run's standing (R236). -/
  status : RunStatus
  /-- The model's own field: the bus transactions issued so far, oldest first (R230, R70). Log 2. -/
  busLog : List Transaction
deriving DecidableEq, Repr

/-! ## Faults and refusals -/

/-- Where the machine stops for good. -/
inductive Fault where
  /-- Raised by a marshalling operation whose bus transaction is never answered: the operation is pending for
  ever (45_marshalling.md R233, 93_implementation_defined.md I15 "stuck"). Safe: nothing is claimed of a state after
  it. -/
  | busNeverAnswers
deriving DecidableEq, Repr

/-- Where the model gives no meaning. -/
inductive Refusal where
  /-- Raised by `exec`'s arm of an instruction that has no meaning yet (none here). Safe. -/
  | notModelled (mnemonic : String)
  /-- Raised by `step` on a request whose record is not of its selector's type, which R82 says cannot be written
  (93_implementation_defined.md "refuse": the model rejects the input before it reaches the hardware). Safe. -/
  | operandMismatch (sel : Byte)
deriving DecidableEq, Repr

/-- The outcome of one step of this machine. -/
abbrev StepOutcome := Host.Outcome State Fault Refusal

/-! ## Construction (70_reset_and_hazards.md R260, R261) -/

/-- A block comes into being with a century, a default hour mode, a bus and a build profile (R260, R7). No
transaction has been issued (R261), no request has been made. -/
def State.construct (century : Int) (hourMode : HourMode) (bus : Bus) (unimplemented : List Byte) : State :=
  { cfg := { century := century, hourMode := hourMode }
    unimplemented := unimplemented
    bus := bus
    img := []
    prog := []
    pc := 0
    trace := []
    status := .running
    busLog := [] }

/-- Reset is construction (R260): the construction arguments are the free constants of Config, the bus is the free
oracle, and the build profile is full (R87). Logs 1, 2, 4, 6. -/
def State.reset : State :=
  State.construct Config.pCentury Config.pHourMode (.oracle []) []

end Sys2Proof.Machine
end

