-- ==== Sys2Proof/Machine/Ops.lean ====
section
/-! DEFINITION. The operations every meaning is written over: the reference image's bytes and blocks, the bus port
(00_scope.md R14, 20_memory.md R64), the error records (60_exceptions.md R240, R241), answering a request and taking
an error (R247, 45_marshalling.md R236), the GET and SET patterns (R210), and fetching and dispatching the next request
(30_encoding.md R81). -/

namespace Sys2Proof.Machine

/-! ## The image's bytes -/

/-- What an address that the image does not list reads as. Log 4. -/
def unlistedByte : Byte := 0

/-- The canonical form from address `lo` on: addresses strictly rising, all 8-bit (R60), no entry equal to what an
unlisted address reads as. -/
def Memory.wfFrom (lo : Nat) (m : Memory) : Bool :=
  match m with
  | [] => true
  | (a, b) :: rest => decide (lo ≤ a) && decide (a < 256) && decide (b ≠ unlistedByte) && Memory.wfFrom (a + 1) rest

/-- The canonical form of a memory, so that equal memories are equal data. -/
def Memory.wf (m : Memory) : Bool := Memory.wfFrom 0 m

/-- The byte at address `k`. -/
def Memory.readByte (m : Memory) (k : Nat) : Byte :=
  match m with
  | [] => unlistedByte
  | (a, b) :: rest => if k = a then b else Memory.readByte rest k

/-- Store `v` at address `k`, keeping the canonical form. -/
def Memory.writeByte (m : Memory) (k : Nat) (v : Byte) : Memory :=
  match m with
  | [] => if v = unlistedByte then [] else [(k, v)]
  | (a, b) :: rest =>
    if k < a then
      if v = unlistedByte then (a, b) :: rest else (k, v) :: (a, b) :: rest
    else if k = a then
      if v = unlistedByte then rest else (k, v) :: rest
    else (a, b) :: Memory.writeByte rest k v

/-- `[img[a], ..., img[a+n-1]]` (R64, byte order R62); addresses add in 8 bits. Log 5. -/
def Memory.readBlock (m : Memory) (addr : Byte) (n : Nat) : Buf :=
  match n with
  | 0 => []
  | k + 1 => m.readByte addr.toNat :: Memory.readBlock m (addr + 1) k

/-- `img[a+i] <- v[i]` for every i (R64, R62); addresses add in 8 bits. Log 5. -/
def Memory.writeBlock (m : Memory) (addr : Byte) (data : Buf) : Memory :=
  match data with
  | [] => m
  | b :: rest => Memory.writeBlock (m.writeByte addr.toNat b) (addr + 1) rest

/-! ## The bus port (R14, R64) -/

/-- The collaborator's answer to transaction `t`, which it has just been given, with the bus and the image after it.
`none`: it never answers. The free draw sees the whole history up to `t`. -/
def busAnswer (s : State) (t : Transaction) : Option BusReply × Bus × Memory :=
  match s.bus with
  | .oracle [] => (some (Config.busReply (s.busLog ++ [t])), .oracle [], s.img)
  | .oracle (r :: rest) => (r, .oracle rest, s.img)
  | .fail => (some (.error none), .fail, s.img)
  | .reference =>
    match t with
    | .read addr n => (some (.ok (s.img.readBlock addr n)), .reference, s.img)
    | .write addr data => (some (.ok []), .reference, s.img.writeBlock addr data)
  | .short =>
    match t with
    | .read addr n => (some (.ok (s.img.readBlock addr (n - 1))), .short, s.img)
    | .write addr data => (some (.ok []), .short, s.img.writeBlock addr data)

/-- Issue one transaction: it is recorded, and the collaborator answers. The block's own state is untouched (R48). -/
def issue (s : State) (t : Transaction) : Option BusReply × State :=
  let a := busAnswer s t
  (a.1, { s with bus := a.2.1, img := a.2.2, busLog := s.busLog ++ [t] })

/-! ## Error records (R240, R241, 92_eei_decisions.md D20) -/

/-- An error kind's code (R240). -/
def errorCode (k : ErrorKind) : Nat :=
  match k with
  | .lengthError => 1
  | .rangeError => 2
  | .missingRequiredFieldError => 3
  | .unknownEnumError => 4
  | .notImplementedError => 5
  | .busError => 6
  | .illegalOperation => 7

def lengthError (need got : Nat) : BlockError :=
  ⟨.lengthError, ⟨some .buf, none, some need, some got, none⟩⟩

def rangeError (field : FieldName) : BlockError :=
  ⟨.rangeError, ⟨some field, none, none, none, none⟩⟩

/-- A `RangeError` with one of the texts R240 gives. Log 11. -/
def rangeErrorWith (field : FieldName) (message : String) : BlockError :=
  ⟨.rangeError, ⟨some field, some message, none, none, none⟩⟩

def missingFieldError (field : FieldName) : BlockError :=
  ⟨.missingRequiredFieldError, ⟨some field, none, none, none, none⟩⟩

def unknownEnumError (field : FieldName) : BlockError :=
  ⟨.unknownEnumError, ⟨some field, none, none, none, none⟩⟩

def notImplementedError (sel : Byte) : BlockError :=
  ⟨.notImplementedError, ⟨none, none, none, none, some sel⟩⟩

/-- The message is the bus's, if any (R241). -/
def busError (message : Option String) : BlockError :=
  ⟨.busError, ⟨none, message, none, none, none⟩⟩

def illegalOperation (sel : Byte) : BlockError :=
  ⟨.illegalOperation, ⟨none, none, none, none, some sel⟩⟩

/-! ## Answering a request -/

/-- `Ok(v)` (R80): the result joins the trace and the program index advances by one (R236). -/
def State.complete (s : State) (v : Value) : State :=
  { s with trace := s.trace ++ [v], pc := s.pc + 1 }

/-- Taking an error, `Err(e)` (R247): no state is saved, no mode changes, no vector is entered, the configuration is
untouched (R242); the run halts with the faulting index, the error and the trace so far (R236). There is no return
from it to model (R248): the block takes the next request, of a run started with `State.loadProgram`, as if the
failed one had not been made. Log 7. -/
def State.raise (s : State) (e : BlockError) : State :=
  { s with status := .faulted e }

/-- The one response to a request (R80). -/
def State.answer (s : State) (r : Except BlockError Value) : State :=
  match r with
  | .ok v => s.complete v
  | .error e => s.raise e

/-- A Codec operation: its result or error is the response, and nothing else happens (20_memory.md R61). -/
def respond (s : State) (r : Except BlockError Value) : StepOutcome :=
  .next (s.answer r)

/-! ## GET and SET (R210) -/

/-- What a GET answers once the bus has: the decode of the buffer, or `BusError`. -/
def readResult (dec : Buf → Except BlockError Value) (r : BusReply) : Except BlockError Value :=
  match r with
  | .ok buf => dec buf
  | .error m => .error (busError m)

/-- What a SET answers once the bus has. -/
def writeResult (r : BusReply) : Except BlockError Value :=
  match r with
  | .ok _ => .ok .unit
  | .error m => .error (busError m)

/-- A GET of group `(addr, n)`: exactly one read, then the decode (R210). -/
def getGroup (s : State) (addr : Byte) (n : Nat) (dec : Buf → Except BlockError Value) : StepOutcome :=
  let a := issue s (.read addr n)
  match a.1 with
  | none => .fault .busNeverAnswers
  | some r => .next (a.2.answer (readResult dec r))

/-- The write of a SET: exactly one write (R210). -/
def putRange (s : State) (addr : Byte) (data : Buf) : StepOutcome :=
  let a := issue s (.write addr data)
  match a.1 with
  | none => .fault .busNeverAnswers
  | some r => .next (a.2.answer (writeResult r))

/-- A SET at `addr`: the encode first; its error means no transaction (R210). -/
def setRange (s : State) (addr : Byte) (enc : Except BlockError Buf) : StepOutcome :=
  match enc with
  | .error e => respond s (.error e)
  | .ok data => putRange s addr data

/-! ## The program model and dispatch (R236, R81) -/

/-- The requester starts a run of `prog` on the same block (R236): the block's configuration, build profile, bus and
traffic stay as they are (R20, R248). Log 6. -/
def State.loadProgram (s : State) (prog : List Request) : State :=
  { s with prog := prog, pc := 0, trace := [], status := .running }

/-- The next request, `prog[pc]`; `none` when `pc` is not below the program's length (R236's loop test). -/
def fetch (s : State) : Option Request :=
  s.prog[s.pc]?

/-- The run has performed every request: `Done{trace}` (R236). -/
def State.finish (s : State) : State :=
  { s with status := .done }

/-- What dispatch decides of a request. -/
inductive Dispatched where
  | perform (i : Instr)
  | reject (e : BlockError)
  | mismatch (sel : Byte)
deriving DecidableEq, Repr

/-- Dispatch (R81): an unassigned selector, then one the build profile leaves out, then the operation. -/
def dispatch (unimplemented : List Byte) (r : Request) : Dispatched :=
  match decode r with
  | .illegalSelector sel => .reject (illegalOperation sel)
  | .operandMismatch sel =>
    if unimplemented.contains sel then .reject (notImplementedError sel) else .mismatch sel
  | .ok i =>
    if unimplemented.contains r.sel then .reject (notImplementedError r.sel) else .perform i

/-- `qs` with request `r` at index `n`, padded with `r` where it is too short. -/
def placeRequest (qs : List Request) (n : Nat) (r : Request) : List Request :=
  match qs, n with
  | [], 0 => [r]
  | [], k + 1 => r :: placeRequest [] k r
  | _ :: rest, 0 => r :: rest
  | q :: rest, k + 1 => q :: placeRequest rest k r

end Sys2Proof.Machine
end

