-- ==== Sys2Proof/Machine/Operands.lean ====
section
/-! DEFINITION. Operand forms: the register map (10_state.md R24) and the other literals that
93_implementation_defined.md I14 asks to be named, the field descriptors of the BCD fields and the pack
lists of the register formats (30_encoding.md R84), and the per-call overrides (45_marshalling.md R211). -/

namespace Sys2Proof.Machine

/-! ## The register map (R24, R230): start addresses and lengths -/

def addrControl1 : Byte := 0x00
def addrControl2 : Byte := 0x01
def addrControl3 : Byte := 0x02
def addrTime : Byte := 0x03
def addrAlarm : Byte := 0x0A
def addrOffset : Byte := 0x0E
def addrTimerControl : Byte := 0x0F
def addrTimerAFreq : Byte := 0x10
def addrTimerAValue : Byte := 0x11
def addrTimerBFreq : Byte := 0x12
def addrTimerBValue : Byte := 0x13

def lenProfile : Nat := 3
def lenTime : Nat := 7
def lenAlarm : Nat := 4
def lenOffset : Nat := 1
def lenTimer : Nat := 5

/-- The soft-reset byte (45_marshalling.md R229). -/
def softResetByte : Byte := 0x58

/-- The two's-complement bounds of the offset (41_primitives.md R105). -/
def tc7Min : Int := -64
def tc7Max : Int := 63

/-- The PPM factors, 4.34 and 4.069 (44_offset_timer.md R182). -/
def ppmEveryTwoHours : Rat := 434 / 100
def ppmEveryMinute : Rat := 4069 / 1000

/-- The end points of the pulse widths, in milliseconds (44_offset_timer.md R189). -/
def pulseWidthFirst : Rat := 46875 / 1000
def pulseWidthLast : Rat := 218750 / 1000

/-! ## BCD field descriptors (R29-R39; `pos` is the most significant bit, R9) -/

/-- Units of every BCD register. -/
def unitsField : FieldDesc := ⟨3, 4⟩
/-- Tens of seconds and minutes: 3 bits. -/
def tens3 : FieldDesc := ⟨6, 3⟩
/-- Tens of days and 24-hour hours: 2 bits. -/
def tens2 : FieldDesc := ⟨5, 2⟩
/-- Tens of months and 12-hour hours: 1 bit. -/
def tens1 : FieldDesc := ⟨4, 1⟩
/-- Tens of years: 4 bits. -/
def tens4 : FieldDesc := ⟨7, 4⟩

/-! ## Pack lists (R84) -/

def fmtControl1 : List FieldDesc := [⟨7, 1⟩, ⟨5, 1⟩, ⟨3, 1⟩, ⟨2, 1⟩, ⟨1, 1⟩, ⟨0, 1⟩]
def fmtControl2 : List FieldDesc := [⟨6, 1⟩, ⟨5, 1⟩, ⟨4, 1⟩, ⟨3, 1⟩, ⟨2, 1⟩, ⟨1, 1⟩, ⟨0, 1⟩]
def fmtControl3 : List FieldDesc := [⟨7, 3⟩, ⟨3, 1⟩, ⟨2, 1⟩, ⟨1, 1⟩, ⟨0, 1⟩]
def fmtTimerControl : List FieldDesc := [⟨7, 1⟩, ⟨6, 1⟩, ⟨5, 3⟩, ⟨2, 2⟩, ⟨0, 1⟩]
def fmtTimerBFreq : List FieldDesc := [⟨6, 3⟩, ⟨2, 3⟩]

/-! ## Per-call overrides (R211) -/

/-- `(ops.mode = none) ? cfg.hourMode : ops.mode`. -/
def effectiveMode (s : State) (mode : Option HourMode) : HourMode :=
  match mode with
  | some m => m
  | none => s.cfg.hourMode

/-- `(ops.century = none) ? cfg.century : ops.century`. -/
def effectiveCentury (s : State) (century : Option Int) : Int :=
  match century with
  | some c => c
  | none => s.cfg.century

end Sys2Proof.Machine
end

