-- ==== Sys2Proof/Machine/Flags.lean ====
section
/-! DEFINITION. Flag bits of the device registers (10_state.md R46). The block has no condition codes or status flags of
its own, and no operation writes any (R23): what follows reads and writes the flag BITS of register bytes, as data. -/

namespace Sys2Proof.Machine

/-- `b[i] = 1` (00_scope.md R8): a flag Bool is true when its bit is 1 (R46). -/
def bit (b : Byte) (i : Nat) : Bool := b.getLsbD i

/-- An alarm register's enable, bit 7, active low: 0 means enabled (R36, R46). -/
def alarmEnabled (b : Byte) : Bool := !bit b 7

/-- The enable bit an alarm encode writes: `(enabled ? 0 : 1) << 7` (43_time_alarm.md R155). -/
def alarmEnableBits (enabled : Bool) : Byte := boolByte (!enabled) <<< 7

/-- `keep(x) = x ? 0 : 1` (42_control.md R133): what a W0C flag is written as, 0 to clear it, 1 to preserve it (R46). -/
def keep (clear : Bool) : Int := boolInt (!clear)

/-- The integrity flag of the seconds register: true when bit 7 is 0 (R29, R46). -/
def integrityFlag (b : Byte) : Bool := !bit b 7

end Sys2Proof.Machine
end

