-- ==== Sys2Proof/Machine/Primitives.lean ====
section
/-! DEFINITION. Codec primitives (41_primitives.md R100-R111): bit fields, BCD, the 7-bit two's complement, the
century-relative year, the 12-hour reading and the name lookups, and the meanings of selectors 0x01-0x0B. -/

namespace Sys2Proof.Machine

/-! ## Field descriptors (41_primitives.md, helper; 00_scope.md R9) -/

/-- `validDesc`: the descriptor is a field of a byte. -/
def validDesc (f : FieldDesc) : Bool :=
  decide (1 ≤ f.w) && decide (f.w ≤ 8) && decide (0 ≤ f.pos) && decide (f.pos ≤ 7) && decide (0 ≤ f.pos - f.w + 1)

/-- `lo`: the field's least significant bit, as a shift amount (used only on valid descriptors). -/
def fieldLo (f : FieldDesc) : Nat := (f.pos - f.w + 1).toNat

/-- `mask(w) = 2^w - 1`. -/
def fieldMask (f : FieldDesc) : Nat := 2 ^ f.w.toNat - 1

/-- `covers`: the field covers bit i. -/
def covers (f : FieldDesc) (i : Nat) : Bool :=
  decide (f.pos - f.w + 1 ≤ (i : Int)) && decide ((i : Int) ≤ f.pos)

/-- `covers(f) ∩ covers(g) ≠ {}`, over the bits of a byte. -/
def fieldsOverlap (f g : FieldDesc) : Bool :=
  (List.range 8).any fun i => covers f i && covers g i

/-- Two of the fields overlap (R101: for i < j). -/
def anyOverlap (fs : List FieldDesc) : Bool :=
  match fs with
  | [] => false
  | f :: rest => rest.any (fieldsOverlap f) || anyOverlap rest

/-- `ext(b, pos, w) = (b >> lo) & mask` (R9, R100). -/
def ext (b : Byte) (f : FieldDesc) : Int :=
  ((b.toNat >>> fieldLo f) &&& fieldMask f : Nat)

/-! ## Bit fields (R100, R101) -/

/-- BITS_EXTRACT (R100). -/
def bitsExtract (b : Byte) (f : FieldDesc) : Except BlockError Int :=
  if validDesc f then .ok (ext b f) else .error (rangeError .f)

/-- The value does not fit its field (R101). -/
def valueMisfit (f : FieldDesc) (v : Int) : Bool :=
  decide (v < 0) || decide ((fieldMask f : Int) < v)

/-- Some value does not fit its field. -/
def anyMisfit (fs : List FieldDesc) (vs : List Int) : Bool :=
  match fs, vs with
  | f :: fs', v :: vs' => valueMisfit f v || anyMisfit fs' vs'
  | _, _ => false

/-- R101's accumulation: `acc | (values[i] << lo(fields[i]))`. -/
def packLoop (acc : Nat) (fs : List FieldDesc) (vs : List Int) : Nat :=
  match fs, vs with
  | f :: fs', v :: vs' => packLoop (acc ||| (v.toNat <<< fieldLo f)) fs' vs'
  | _, _ => acc

/-- BITS_PACK (R101), its checks in R101's order. -/
def bitsPack (fs : List FieldDesc) (vs : List Int) : Except BlockError Byte :=
  if fs.length ≠ vs.length then .error (rangeError .values)
  else if !fs.all validDesc then .error (rangeError .fields)
  else if anyOverlap fs then .error (rangeError .fields)
  else if anyMisfit fs vs then .error (rangeError .values)
  else .ok (BitVec.ofNat 8 (packLoop 0 fs vs))

/-! ## BCD (R102, R103) -/

/-- BCD of two fields, no check: `10 * tens + units`; digits are never validated (R102). -/
def bcdValue (b : Byte) (tens units : FieldDesc) : Int :=
  10 * ext b tens + ext b units

/-- BCD_DECODE (R102). -/
def bcdDecode (b : Byte) (tens units : FieldDesc) : Except BlockError Int :=
  if !validDesc tens then .error (rangeError .tens)
  else if !validDesc units then .error (rangeError .units)
  else .ok (bcdValue b tens units)

/-- BCD_ENCODE (R103), its checks in R103's order. -/
def bcdEncode (v : Int) (tens units : FieldDesc) : Except BlockError Byte :=
  if !validDesc tens then .error (rangeError .tens)
  else if !validDesc units then .error (rangeError .units)
  else if fieldsOverlap tens units then .error (rangeError .tens)
  else if v < 0 ∨ 99 < v then .error (rangeError .v)
  else
    let t := v / 10
    let u := v - 10 * t
    if (fieldMask tens : Int) < t ∨ (fieldMask units : Int) < u then .error (rangeError .v)
    else .ok (BitVec.ofNat 8 ((t.toNat <<< fieldLo tens) ||| (u.toNat <<< fieldLo units)))

/-! ## Seven-bit two's complement (R104, R105) -/

/-- TC7_DECODE (R104); `~raw & 0x7F` is `0x7F - raw` (00_scope.md R10). -/
def tc7Decode (raw : Int) : Except BlockError Int :=
  if raw < 0 ∨ 127 < raw then .error (rangeError .raw)
  else if raw.toNat.testBit 6 then .ok (-((0x7F - raw) + 1))
  else .ok raw

/-- TC7_ENCODE (R105); `~x & 0x7F` is `0x7F - x` (00_scope.md R10). -/
def tc7Encode (v : Int) : Except BlockError Int :=
  if v < tc7Min ∨ tc7Max < v then .error (rangeError .offsetValue)
  else if 0 ≤ v then .ok v
  else .ok (0x7F - (-v - 1))

/-! ## Century-relative years (R106, R107) -/

/-- YEAR_DECODE (R106). -/
def yearDecode (y2 century : Int) : Int := century + y2

/-- YEAR_ENCODE (R107); the message texts are the source's (60_exceptions.md R240). -/
def yearEncode (year4digit century : Int) : Except BlockError Int :=
  let y2 := year4digit - century
  if y2 < 0 then .error (rangeErrorWith .year4digit "year precedes configured century")
  else if 100 ≤ y2 then .error (rangeErrorWith .year4digit "year exceeds configured century span")
  else .ok y2

/-! ## Hours (R108, R109) -/

/-- HOUR_TO_24 (R108): 12 o'clock is not remapped (R109). -/
def hourTo24 (hour : Int) (pm : Bool) : Int := if pm then hour + 12 else hour

/-! ## Names (R110, R111) -/

def weekdayNames : List WeekdayName :=
  [.sunday, .monday, .tuesday, .wednesday, .thursday, .friday, .saturday]

def monthNames : List MonthName :=
  [.january, .february, .march, .april, .may, .june, .july, .august, .september, .october, .november, .december]

/-- WEEKDAY_NAME (R110). -/
def weekdayName (idx : Int) : Option WeekdayName :=
  if 0 ≤ idx ∧ idx ≤ 6 then weekdayNames[idx.toNat]? else none

/-- MONTH_NAME (R111). -/
def monthName (monthsValue : Int) : Option MonthName :=
  if 1 ≤ monthsValue ∧ monthsValue ≤ 12 then monthNames[(monthsValue - 1).toNat]? else none

/-! ## Meanings -/

/-- BITS_EXTRACT, selector 0x01 (R100). -/
def execBitsExtract (b : Byte) (f : FieldDesc) (s : State) : StepOutcome :=
  respond s ((bitsExtract b f).map Value.int)

/-- BITS_PACK, selector 0x02 (R101). -/
def execBitsPack (fields : List FieldDesc) (values : List Int) (s : State) : StepOutcome :=
  respond s ((bitsPack fields values).map Value.byte)

/-- BCD_DECODE, selector 0x03 (R102). -/
def execBcdDecode (b : Byte) (tens units : FieldDesc) (s : State) : StepOutcome :=
  respond s ((bcdDecode b tens units).map Value.int)

/-- BCD_ENCODE, selector 0x04 (R103). -/
def execBcdEncode (v : Int) (tens units : FieldDesc) (s : State) : StepOutcome :=
  respond s ((bcdEncode v tens units).map Value.byte)

/-- TC7_DECODE, selector 0x05 (R104). -/
def execTc7Decode (raw : Int) (s : State) : StepOutcome :=
  respond s ((tc7Decode raw).map Value.int)

/-- TC7_ENCODE, selector 0x06 (R105). -/
def execTc7Encode (v : Int) (s : State) : StepOutcome :=
  respond s ((tc7Encode v).map Value.int)

/-- YEAR_DECODE, selector 0x07 (R106). -/
def execYearDecode (y2 century : Int) (s : State) : StepOutcome :=
  respond s (.ok (.int (yearDecode y2 century)))

/-- YEAR_ENCODE, selector 0x08 (R107). -/
def execYearEncode (year4digit century : Int) (s : State) : StepOutcome :=
  respond s ((yearEncode year4digit century).map Value.int)

/-- HOUR_TO_24, selector 0x09 (R108). -/
def execHourTo24 (hour : Int) (pm : Bool) (s : State) : StepOutcome :=
  respond s (.ok (.int (hourTo24 hour pm)))

/-- WEEKDAY_NAME, selector 0x0A (R110). -/
def execWeekdayName (idx : Int) (s : State) : StepOutcome :=
  respond s (.ok (.weekdayName (weekdayName idx)))

/-- MONTH_NAME, selector 0x0B (R111). -/
def execMonthName (monthsValue : Int) (s : State) : StepOutcome :=
  respond s (.ok (.monthName (monthName monthsValue)))

end Sys2Proof.Machine
end

