-- ==== Sys2Proof/Machine/Control.lean ====
section
/-! DEFINITION. Control registers (42_control.md R130-R139; layouts 10_state.md R26-R28), and the meanings of selectors
0x10-0x16. -/

namespace Sys2Proof.Machine

/-- Every decode's length check: a buffer shorter than the group fails, bytes past it are ignored
(42_control.md, introduction; 92_eei_decisions.md D19). -/
def needLength {α : Type} (need : Nat) (buf : Buf) (v : α) : Except BlockError α :=
  if buf.length < need then .error (lengthError need buf.length) else .ok v

/-- Byte `i` of a buffer whose length has been checked. -/
def byteAt (buf : Buf) (i : Nat) : Byte := buf.getD i 0

/-- A one-byte encode result. -/
def oneByte (r : Except BlockError Byte) : Except BlockError Buf :=
  r.map fun b => [b]

/-! ## Control1 (R130, R131) -/

/-- The fields of a Control1 byte (R26, R130). -/
def control1Fields (b : Byte) : Control1 :=
  { capacitorSelection := if bit b 7 then .cap12_5pF else .cap7pF
    stop := bit b 5
    twelveHourMode := bit b 3
    secondInterruptEnabled := bit b 2
    alarmInterruptEnabled := bit b 1
    correctionInterruptEnabled := bit b 0 }

/-- CONTROL1_DECODE (R130). -/
def control1Decode (buf : Buf) : Except BlockError Control1 :=
  needLength 1 buf (control1Fields (byteAt buf 0))

/-- The bit a capacitor selection is written as; none for a value outside the known set (R131). -/
def capBit (c : CapSelIn) : Option Int :=
  match c with
  | .cap7pF => some 0
  | .cap12_5pF => some 1
  | .other _ => none

/-- CONTROL1_ENCODE (R131). -/
def control1Encode (c : Control1In) : Except BlockError Buf :=
  match capBit c.capacitorSelection with
  | none => .error (unknownEnumError .capacitorSelection)
  | some cap =>
    oneByte (bitsPack fmtControl1
      [cap, boolInt c.stop, boolInt c.twelveHourMode, boolInt c.secondInterruptEnabled,
        boolInt c.alarmInterruptEnabled, boolInt c.correctionInterruptEnabled])

/-! ## Control2 (R132, R133) -/

/-- The fields of a Control2 byte (R27, R132). -/
def control2Fields (b : Byte) : Control2 :=
  { watchdogAFlag := bit b 7
    countdownAFlag := bit b 6
    countdownBFlag := bit b 5
    secondFlag := bit b 4
    alarmFlag := bit b 3
    watchdogAInterruptEnabled := bit b 2
    countdownAInterruptEnabled := bit b 1
    countdownBInterruptEnabled := bit b 0 }

/-- CONTROL2_DECODE (R132). -/
def control2Decode (buf : Buf) : Except BlockError Control2 :=
  needLength 1 buf (control2Fields (byteAt buf 0))

/-- CONTROL2_ENCODE (R133). -/
def control2Encode (c : Control2In) : Except BlockError Buf :=
  oneByte (bitsPack fmtControl2
    [keep c.clearCountdownAFlag, keep c.clearCountdownBFlag, keep c.clearSecondFlag, keep c.clearAlarmFlag,
      boolInt c.watchdogAInterruptEnabled, boolInt c.countdownAInterruptEnabled,
      boolInt c.countdownBInterruptEnabled])

/-! ## Control3 (R134-R136) -/

/-- The fields of a Control3 byte (R28, R134); `pm = b[7:5]`, so `pm[2] = b[7]`, `pm[1] = b[6]`, `pm[0] = b[5]`. -/
def control3Fields (b : Byte) : Control3 :=
  let so := !bit b 6
  { pmBatteryLowDetectionEnabled := !bit b 7
    pmSwitchoverEnabled := so
    pmDirectSwitchingEnabled := if so then some (bit b 5) else none
    batterySwitchoverFlag := bit b 3
    batteryLowFlag := bit b 2
    switchoverInterruptEnabled := bit b 1
    batteryLowInterruptEnabled := bit b 0 }

/-- CONTROL3_DECODE (R134): the illegal power mode 110 is not rejected. -/
def control3Decode (buf : Buf) : Except BlockError Control3 :=
  needLength 1 buf (control3Fields (byteAt buf 0))

/-- The power-mode code of a triplet (R135, R136). -/
def powerMode (bld so ds : Bool) : Int :=
  boolInt (!bld) * 4 + boolInt (!so) * 2 + boolInt ds

/-- CONTROL3_ENCODE (R135): power mode 110 is illegal; bit 2 is always written 1. -/
def control3Encode (c : Control3In) : Except BlockError Buf :=
  let pm := powerMode c.pmBatteryLowDetectionEnabled c.pmSwitchoverEnabled c.pmDirectSwitchingEnabled
  if pm = 0b110 then .error (rangeErrorWith .powerMode "illegal power mode 110")
  else
    oneByte (bitsPack fmtControl3
      [pm, keep c.clearBatterySwitchoverFlag, 1, boolInt c.switchoverInterruptEnabled,
        boolInt c.batteryLowInterruptEnabled])

/-! ## Profile (R137) -/

/-- PROFILE_DECODE (R137): sub-ranges 0:1, 1:2, 2:3. -/
def profileDecode (buf : Buf) : Except BlockError Profile :=
  needLength lenProfile buf
    { control1 := control1Fields (byteAt buf 0)
      control2 := control2Fields (byteAt buf 1)
      control3 := control3Fields (byteAt buf 2) }

/-! ## Meanings -/

/-- CONTROL1_DECODE, selector 0x10 (R130). -/
def execControl1Decode (buf : Buf) (s : State) : StepOutcome :=
  respond s ((control1Decode buf).map Value.control1)

/-- CONTROL1_ENCODE, selector 0x11 (R131). -/
def execControl1Encode (c : Control1In) (s : State) : StepOutcome :=
  respond s ((control1Encode c).map Value.buf)

/-- CONTROL2_DECODE, selector 0x12 (R132). -/
def execControl2Decode (buf : Buf) (s : State) : StepOutcome :=
  respond s ((control2Decode buf).map Value.control2)

/-- CONTROL2_ENCODE, selector 0x13 (R133). -/
def execControl2Encode (c : Control2In) (s : State) : StepOutcome :=
  respond s ((control2Encode c).map Value.buf)

/-- CONTROL3_DECODE, selector 0x14 (R134). -/
def execControl3Decode (buf : Buf) (s : State) : StepOutcome :=
  respond s ((control3Decode buf).map Value.control3)

/-- CONTROL3_ENCODE, selector 0x15 (R135). -/
def execControl3Encode (c : Control3In) (s : State) : StepOutcome :=
  respond s ((control3Encode c).map Value.buf)

/-- PROFILE_DECODE, selector 0x16 (R137). -/
def execProfileDecode (buf : Buf) (s : State) : StepOutcome :=
  respond s ((profileDecode buf).map Value.profile)

end Sys2Proof.Machine
end

