-- ==== Sys2Proof/Machine/OffsetTimer.lean ====
section
/-! DEFINITION. The offset register and the timer configuration (44_offset_timer.md R180-R199; layouts 10_state.md
R40-R45), and the meanings of selectors 0x30-0x3C. PPM values, pulse widths and durations are exact rationals
(00_scope.md R10, 92_eei_decisions.md D17). -/

namespace Sys2Proof.Machine

/-! ## Tables (10_state.md R50) -/

/-- `PPM_STEP` (R182): 4.34 and 4.069, the source's factors. -/
def ppmStep (mode : OffsetMode) : Rat :=
  match mode with
  | .everyTwoHours => ppmEveryTwoHours
  | .everyMinute => ppmEveryMinute

/-- `COF_NAME` (R184). -/
def cofName (code : Code3) : CofName :=
  match code.toNat with
  | 0 => .clk32768Hz
  | 1 => .clk16384Hz
  | 2 => .clk8192Hz
  | 3 => .clk4096Hz
  | 4 => .clk1024Hz
  | 5 => .clk32Hz
  | 6 => .clk1Hz
  | _ => .clkDisabled

/-- `TAC_NAME` (R185). -/
def tacName (code : Code2) : TacName :=
  match code.toNat with
  | 0 => .taDisabled
  | 1 => .taCountdown
  | 2 => .taWatchdog
  | _ => .taDisabledAlt

/-- The rows of `SRC` with a mapping (R188); codes 5 and 6 are aliases of code 4, code 7 has none. -/
def srcTable : List SrcRow :=
  [ ⟨.src4096Hz, 4096, [.microseconds, .milliseconds]⟩
  , ⟨.src64Hz, 64, [.milliseconds, .seconds]⟩
  , ⟨.src1Hz, 1, [.seconds]⟩
  , ⟨.src1_60Hz, 1 / 60, [.minutes]⟩
  , ⟨.src1_3600Hz, 1 / 3600, [.hours]⟩
  , ⟨.src1_3600Hz, 1 / 3600, [.hours]⟩
  , ⟨.src1_3600Hz, 1 / 3600, [.hours]⟩ ]

/-- `SRC[code]` (R188): none for code 7, "no known frequency mapping", and past the table. -/
def srcRow (code : Nat) : Option SrcRow := srcTable[code]?

/-- `TBW` (R189), in milliseconds. -/
def pulseWidthMs (code : Code3) : Rat :=
  match code.toNat with
  | 0 => pulseWidthFirst
  | 1 => 62500 / 1000
  | 2 => 78125 / 1000
  | 3 => 93750 / 1000
  | 4 => 125000 / 1000
  | 5 => 156250 / 1000
  | 6 => 187500 / 1000
  | _ => pulseWidthLast

/-! ## Offset (R180, R181) -/

/-- The offset's mode, bit 7 (R40). -/
def offsetMode (b : Byte) : OffsetMode := if bit b 7 then .everyMinute else .everyTwoHours

/-- OFFSET_DECODE (R180). -/
def offsetDecode (buf : Buf) : Except BlockError Offset := do
  let b ← needLength lenOffset buf (byteAt buf 0)
  let v ← tc7Decode (ext b ⟨6, 7⟩)
  return { mode := offsetMode b, offsetValue := v, offsetPPM := (v : Rat) * ppmStep (offsetMode b) }

/-- OFFSET_ENCODE (R181). -/
def offsetEncode (o : OffsetIn) : Except BlockError Buf :=
  oneByte ((tc7Encode o.offsetValue).map fun r => (boolByte (o.mode = .everyMinute) <<< 7) ||| BitVec.ofInt 8 r)

/-! ## CLOCKOUT/timer control (R183, R186) -/

/-- The fields of a timer control byte (R41, R183). -/
def timerControlFields (b : Byte) : TimerControl :=
  let cof : Code3 := b.extractLsb' 3 3
  let tac : Code2 := b.extractLsb' 1 2
  { timerAInterruptPulseMode := bit b 7
    timerBInterruptPulseMode := bit b 6
    clockOutFrequency := ⟨cof, cofName cof⟩
    timerAControl := ⟨tac, tacName tac⟩
    countdownTimerBEnabled := bit b 0 }

/-- TIMER_CONTROL_DECODE (R183). -/
def timerControlDecode (buf : Buf) : Except BlockError TimerControl :=
  needLength 1 buf (timerControlFields (byteAt buf 0))

/-- TIMER_CONTROL_ENCODE (R186). -/
def timerControlEncode (c : TimerControlIn) : Except BlockError Buf :=
  oneByte (bitsPack fmtTimerControl
    [boolInt c.timerAInterruptPulseMode, boolInt c.timerBInterruptPulseMode, (c.clockOutFrequency.toNat : Int),
      (c.timerAControl.toNat : Int), boolInt c.countdownTimerBEnabled])

/-! ## Timer frequency control (R187, R190-R192) -/

/-- A source-clock code with its name (R187, R188). -/
def codedSrc (code : Code3) : CodedSrc := ⟨code, (srcRow code.toNat).map SrcRow.name⟩

/-- The fields of a timer A frequency byte (R42, R187). -/
def timerAFreqFields (b : Byte) : TimerAFreq := ⟨codedSrc (b.extractLsb' 0 3)⟩

/-- TIMER_A_FREQ_DECODE (R187). -/
def timerAFreqDecode (buf : Buf) : Except BlockError TimerAFreq :=
  needLength 1 buf (timerAFreqFields (byteAt buf 0))

/-- TIMER_A_FREQ_ENCODE (R190): code 7 too is encoded as given. -/
def timerAFreqEncode (f : TimerAFreqIn) : Except BlockError Buf :=
  .ok [f.sourceClock.setWidth 8]

/-- The fields of a timer B frequency byte (R44, R191). -/
def timerBFreqFields (b : Byte) : TimerBFreq :=
  let width : Code3 := b.extractLsb' 4 3
  { pulseWidth := ⟨width, pulseWidthMs width⟩
    sourceClock := codedSrc (b.extractLsb' 0 3) }

/-- TIMER_B_FREQ_DECODE (R191). -/
def timerBFreqDecode (buf : Buf) : Except BlockError TimerBFreq :=
  needLength 1 buf (timerBFreqFields (byteAt buf 0))

/-- TIMER_B_FREQ_ENCODE (R192). -/
def timerBFreqEncode (f : TimerBFreqIn) : Except BlockError Buf :=
  oneByte (bitsPack fmtTimerBFreq [(f.pulseWidth.toNat : Int), (f.sourceClock.toNat : Int)])

/-! ## Timer values (R193, R194) -/

/-- TIMER_VALUE_DECODE (R193). -/
def timerValueDecode (buf : Buf) : Except BlockError TimerValue :=
  needLength 1 buf ⟨byteAt buf 0⟩

/-- TIMER_VALUE_ENCODE (R194). -/
def timerValueEncode (v : TimerValueIn) : Except BlockError Buf :=
  if v.value < 0 ∨ 255 < v.value then .error (rangeError .value)
  else .ok [BitVec.ofInt 8 v.value]

/-! ## The timer block (R195, R196) -/

/-- TIMER_BLOCK_DECODE (R195). -/
def timerBlockDecode (buf : Buf) : Except BlockError TimerBlock :=
  needLength lenTimer buf
    { control := timerControlFields (byteAt buf 0)
      timerAFrequency := timerAFreqFields (byteAt buf 1)
      timerAValue := ⟨byteAt buf 2⟩
      timerBFrequency := timerBFreqFields (byteAt buf 3)
      timerBValue := ⟨byteAt buf 4⟩ }

/-- TIMER_BLOCK_ENCODE (R196): timer A's value is checked first, then timer B's; no partial output. -/
def timerBlockEncode (t : TimerBlockIn) : Except BlockError Buf := do
  let a ← timerValueEncode t.timerAValue
  let b ← timerValueEncode t.timerBValue
  let c ← timerControlEncode t.control
  let fa ← timerAFreqEncode t.timerAFrequency
  let fb ← timerBFreqEncode t.timerBFrequency
  return c ++ fa ++ a ++ fb ++ b

/-! ## Tick-to-duration conversion (R197) -/

/-- `T(x) = floor(x * 1000) / 1000` (R197, 92_eei_decisions.md D35). -/
def trunc3 (x : Rat) : Rat := ((x * 1000).floor : Rat) / 1000

/-- The durations of a tick count at a mapped source clock (R197). -/
def durationOf (row : SrcRow) (ticks : Int) : Duration :=
  let sec : Rat := (ticks : Rat) / row.hz
  { microseconds := trunc3 (sec * 1000000)
    milliseconds := trunc3 (sec * 1000)
    seconds := trunc3 sec
    minutes := trunc3 (sec / 60)
    hours := trunc3 (sec / 3600)
    preferredUnits := row.preferredUnits }

/-- The row of an integer source-clock operand: none outside 0..7 and for code 7 (R197). -/
def srcRowInt (sourceClock : Int) : Option SrcRow :=
  if sourceClock < 0 ∨ 7 < sourceClock then none else srcRow sourceClock.toNat

/-- TIMER_DURATION (R197): ticks first, then the source clock. -/
def timerDuration (sourceClock ticks : Int) : Except BlockError Duration :=
  if ticks < 0 ∨ 255 < ticks then .error (rangeError .ticks)
  else
    match srcRowInt sourceClock with
    | none => .error (rangeErrorWith .sourceClock "no known frequency mapping")
    | some row => .ok (durationOf row ticks)

/-! ## Meanings -/

/-- OFFSET_DECODE, selector 0x30 (R180). -/
def execOffsetDecode (buf : Buf) (s : State) : StepOutcome :=
  respond s ((offsetDecode buf).map Value.offset)

/-- OFFSET_ENCODE, selector 0x31 (R181). -/
def execOffsetEncode (o : OffsetIn) (s : State) : StepOutcome :=
  respond s ((offsetEncode o).map Value.buf)

/-- TIMER_CONTROL_DECODE, selector 0x32 (R183). -/
def execTimerControlDecode (buf : Buf) (s : State) : StepOutcome :=
  respond s ((timerControlDecode buf).map Value.timerControl)

/-- TIMER_CONTROL_ENCODE, selector 0x33 (R186). -/
def execTimerControlEncode (c : TimerControlIn) (s : State) : StepOutcome :=
  respond s ((timerControlEncode c).map Value.buf)

/-- TIMER_A_FREQ_DECODE, selector 0x34 (R187). -/
def execTimerAFreqDecode (buf : Buf) (s : State) : StepOutcome :=
  respond s ((timerAFreqDecode buf).map Value.timerAFreq)

/-- TIMER_A_FREQ_ENCODE, selector 0x35 (R190). -/
def execTimerAFreqEncode (f : TimerAFreqIn) (s : State) : StepOutcome :=
  respond s ((timerAFreqEncode f).map Value.buf)

/-- TIMER_B_FREQ_DECODE, selector 0x36 (R191). -/
def execTimerBFreqDecode (buf : Buf) (s : State) : StepOutcome :=
  respond s ((timerBFreqDecode buf).map Value.timerBFreq)

/-- TIMER_B_FREQ_ENCODE, selector 0x37 (R192). -/
def execTimerBFreqEncode (f : TimerBFreqIn) (s : State) : StepOutcome :=
  respond s ((timerBFreqEncode f).map Value.buf)

/-- TIMER_VALUE_DECODE, selector 0x38 (R193). -/
def execTimerValueDecode (buf : Buf) (s : State) : StepOutcome :=
  respond s ((timerValueDecode buf).map Value.timerValue)

/-- TIMER_VALUE_ENCODE, selector 0x39 (R194). -/
def execTimerValueEncode (v : TimerValueIn) (s : State) : StepOutcome :=
  respond s ((timerValueEncode v).map Value.buf)

/-- TIMER_BLOCK_DECODE, selector 0x3A (R195). -/
def execTimerBlockDecode (buf : Buf) (s : State) : StepOutcome :=
  respond s ((timerBlockDecode buf).map Value.timerBlock)

/-- TIMER_BLOCK_ENCODE, selector 0x3B (R196). -/
def execTimerBlockEncode (t : TimerBlockIn) (s : State) : StepOutcome :=
  respond s ((timerBlockEncode t).map Value.buf)

/-- TIMER_DURATION, selector 0x3C (R197). -/
def execTimerDuration (sourceClock ticks : Int) (s : State) : StepOutcome :=
  respond s ((timerDuration sourceClock ticks).map Value.duration)

end Sys2Proof.Machine
end

