-- ==== Sys2Proof/Machine/TimeAlarm.lean ====
section
/-! DEFINITION. Time and alarm registers (43_time_alarm.md R150-R164; layouts 10_state.md R29-R39), and the meanings of
selectors 0x20-0x2B. The hour mode is an operand, never Control1's bit (R150). -/

namespace Sys2Proof.Machine

/-- The value lies outside `lo..hi`: the domain check of the encodes (92_eei_decisions.md D9). -/
def outside (v lo hi : Int) : Bool := decide (v < lo) || decide (hi < v)

/-- The hour's domain check: 0-23 in 24-hour mode, 1-12 in 12-hour mode (R152, R157). -/
def hourOutside (mode : HourMode) (hour : Int) : Bool :=
  match mode with
  | .h24 => outside hour 0 23
  | .h12 => outside hour 1 12

/-- `pm` is required in 12-hour mode, and ignored in 24-hour mode (R152, R157, 92_eei_decisions.md D11). -/
def pmMissing (mode : HourMode) (pm : Option Bool) : Bool :=
  match mode with
  | .h24 => false
  | .h12 => pm.isNone

/-- The hour field of an hours byte, in the layout of the mode (R31, R37). -/
def hourField (mode : HourMode) (b : Byte) : Int :=
  match mode with
  | .h24 => bcdValue b tens2 unitsField
  | .h12 => bcdValue b tens1 unitsField

/-- The PM bit of an hours byte: none in 24-hour mode (R151, R156). -/
def pmField (mode : HourMode) (b : Byte) : Option Bool :=
  match mode with
  | .h24 => none
  | .h12 => some (bit b 5)

/-- The hours byte's hour and PM bits in the layout of the mode (R31, R152, R157). -/
def hourEncode (mode : HourMode) (hour : Int) (pm : Option Bool) : Except BlockError Byte :=
  match mode with
  | .h24 => bcdEncode hour tens2 unitsField
  | .h12 => (bcdEncode hour tens1 unitsField).map fun e => (boolByte (pm = some true) <<< 5) ||| e

/-! ## Time (R151, R152) -/

/-- The time fields of a 7-byte buffer (R151). No field value is checked. -/
def timeFields (buf : Buf) (mode : HourMode) (century : Int) : Time :=
  let s := byteAt buf 0
  let h := byteAt buf 2
  let hour := hourField mode h
  let wd := ext (byteAt buf 4) ⟨2, 3⟩
  let mv := bcdValue (byteAt buf 5) tens1 unitsField
  { integrity := integrityFlag s
    second := bcdValue s tens3 unitsField
    minute := bcdValue (byteAt buf 1) tens3 unitsField
    hour := hour
    hour24 :=
      match mode with
      | .h24 => hour
      | .h12 => hourTo24 hour (bit h 5)
    pm := pmField mode h
    day := bcdValue (byteAt buf 3) tens2 unitsField
    weekdayValue := wd
    weekday := weekdayName wd
    monthsValue := mv
    month := monthName mv
    year4digit := yearDecode (bcdValue (byteAt buf 6) tens4 unitsField) century }

/-- TIME_DECODE (R151). -/
def timeDecode (buf : Buf) (mode : HourMode) (century : Int) : Except BlockError Time :=
  needLength lenTime buf (timeFields buf mode century)

/-- The seven bytes, once every check has passed (R152): the inner encodes cannot fail then. Seconds bit 7 is 0. -/
def timeBytes (t : TimeIn) (mode : HourMode) (y2 : Int) : Except BlockError Buf := do
  let hb ← hourEncode mode t.hour t.pm
  let sb ← bcdEncode t.second tens3 unitsField
  let nb ← bcdEncode t.minute tens3 unitsField
  let db ← bcdEncode t.day tens2 unitsField
  let mb ← bcdEncode t.monthsValue tens1 unitsField
  let yb ← bcdEncode y2 tens4 unitsField
  return [sb, nb, hb, db, BitVec.ofInt 8 t.weekdayValue, mb, yb]

/-- TIME_ENCODE (R152), its checks in R152's order. -/
def timeEncode (t : TimeIn) (mode : HourMode) (century : Int) : Except BlockError Buf :=
  if outside t.second 0 59 then .error (rangeError .second)
  else if outside t.minute 0 59 then .error (rangeError .minute)
  else if pmMissing mode t.pm then .error (missingFieldError .pm)
  else if hourOutside mode t.hour then .error (rangeError .hour)
  else if outside t.day 1 31 then .error (rangeError .day)
  else if outside t.weekdayValue 0 6 then .error (rangeError .weekdayValue)
  else if outside t.monthsValue 1 12 then .error (rangeError .monthsValue)
  else
    match yearEncode t.year4digit century with
    | .error e => .error e
    | .ok y2 => timeBytes t mode y2

/-! ## Alarm registers, one byte each (R154-R161) -/

/-- The fields of a Minute_alarm byte (R36, R154). -/
def alarmMinuteFields (b : Byte) : AlarmMinute :=
  { minute := bcdValue b tens3 unitsField, minuteEnabled := alarmEnabled b }

/-- ALARM_MINUTE_DECODE (R154). -/
def alarmMinuteDecode (buf : Buf) : Except BlockError AlarmMinute :=
  needLength 1 buf (alarmMinuteFields (byteAt buf 0))

/-- ALARM_MINUTE_ENCODE (R155). -/
def alarmMinuteEncode (a : AlarmMinuteIn) : Except BlockError Buf :=
  if outside a.minute 0 59 then .error (rangeError .minute)
  else oneByte ((bcdEncode a.minute tens3 unitsField).map fun e => alarmEnableBits a.minuteEnabled ||| e)

/-- The fields of an Hour_alarm byte (R37, R156): `pm` and `hour24` are none in 24-hour mode. -/
def alarmHourFields (mode : HourMode) (b : Byte) : AlarmHour :=
  { hour := hourField mode b
    hourEnabled := alarmEnabled b
    pm := pmField mode b
    hour24 :=
      match mode with
      | .h24 => none
      | .h12 => some (hourTo24 (hourField .h12 b) (bit b 5)) }

/-- ALARM_HOUR_DECODE (R156). -/
def alarmHourDecode (buf : Buf) (mode : HourMode) : Except BlockError AlarmHour :=
  needLength 1 buf (alarmHourFields mode (byteAt buf 0))

/-- ALARM_HOUR_ENCODE (R157): `pm` presence first, then the hour's range. -/
def alarmHourEncode (a : AlarmHourIn) (mode : HourMode) : Except BlockError Buf :=
  if pmMissing mode a.pm then .error (missingFieldError .pm)
  else if hourOutside mode a.hour then .error (rangeError .hour)
  else oneByte ((hourEncode mode a.hour a.pm).map fun e => alarmEnableBits a.hourEnabled ||| e)

/-- The fields of a Day_alarm byte (R38, R158). -/
def alarmDayFields (b : Byte) : AlarmDay :=
  { day := bcdValue b tens2 unitsField, dayEnabled := alarmEnabled b }

/-- ALARM_DAY_DECODE (R158). -/
def alarmDayDecode (buf : Buf) : Except BlockError AlarmDay :=
  needLength 1 buf (alarmDayFields (byteAt buf 0))

/-- ALARM_DAY_ENCODE (R159). -/
def alarmDayEncode (a : AlarmDayIn) : Except BlockError Buf :=
  if outside a.day 1 31 then .error (rangeError .day)
  else oneByte ((bcdEncode a.day tens2 unitsField).map fun e => alarmEnableBits a.dayEnabled ||| e)

/-- The fields of a Weekday_alarm byte (R39, R160): binary, no name looked up. -/
def alarmWeekdayFields (b : Byte) : AlarmWeekday :=
  { weekdayValue := ext b ⟨2, 3⟩, weekdayEnabled := alarmEnabled b }

/-- ALARM_WEEKDAY_DECODE (R160). -/
def alarmWeekdayDecode (buf : Buf) : Except BlockError AlarmWeekday :=
  needLength 1 buf (alarmWeekdayFields (byteAt buf 0))

/-- ALARM_WEEKDAY_ENCODE (R161). -/
def alarmWeekdayEncode (a : AlarmWeekdayIn) : Except BlockError Buf :=
  if outside a.weekdayValue 0 6 then .error (rangeError .weekdayValue)
  else .ok [alarmEnableBits a.weekdayEnabled ||| BitVec.ofInt 8 a.weekdayValue]

/-! ## The alarm group (R162, R163) -/

/-- The union of the four records' fields (R162). -/
def alarmFields (buf : Buf) (mode : HourMode) : Alarm :=
  let m := alarmMinuteFields (byteAt buf 0)
  let h := alarmHourFields mode (byteAt buf 1)
  let d := alarmDayFields (byteAt buf 2)
  let w := alarmWeekdayFields (byteAt buf 3)
  { minute := m.minute, minuteEnabled := m.minuteEnabled
    hour := h.hour, hourEnabled := h.hourEnabled, pm := h.pm, hour24 := h.hour24
    day := d.day, dayEnabled := d.dayEnabled
    weekdayValue := w.weekdayValue, weekdayEnabled := w.weekdayEnabled }

/-- ALARM_DECODE (R162). -/
def alarmDecode (buf : Buf) (mode : HourMode) : Except BlockError Alarm :=
  needLength lenAlarm buf (alarmFields buf mode)

/-- ALARM_ENCODE (R163): minute, hour, day, weekday; the first error is reported. -/
def alarmEncode (a : AlarmIn) (mode : HourMode) : Except BlockError Buf := do
  let m ← alarmMinuteEncode { minute := a.minute, minuteEnabled := a.minuteEnabled }
  let h ← alarmHourEncode { hour := a.hour, pm := a.pm, hourEnabled := a.hourEnabled } mode
  let d ← alarmDayEncode { day := a.day, dayEnabled := a.dayEnabled }
  let w ← alarmWeekdayEncode { weekdayValue := a.weekdayValue, weekdayEnabled := a.weekdayEnabled }
  return m ++ h ++ d ++ w

/-! ## Meanings -/

/-- TIME_DECODE, selector 0x20 (R151). -/
def execTimeDecode (buf : Buf) (mode : HourMode) (century : Int) (s : State) : StepOutcome :=
  respond s ((timeDecode buf mode century).map Value.time)

/-- TIME_ENCODE, selector 0x21 (R152). -/
def execTimeEncode (t : TimeIn) (mode : HourMode) (century : Int) (s : State) : StepOutcome :=
  respond s ((timeEncode t mode century).map Value.buf)

/-- ALARM_MINUTE_DECODE, selector 0x22 (R154). -/
def execAlarmMinuteDecode (buf : Buf) (s : State) : StepOutcome :=
  respond s ((alarmMinuteDecode buf).map Value.alarmMinute)

/-- ALARM_MINUTE_ENCODE, selector 0x23 (R155). -/
def execAlarmMinuteEncode (a : AlarmMinuteIn) (s : State) : StepOutcome :=
  respond s ((alarmMinuteEncode a).map Value.buf)

/-- ALARM_HOUR_DECODE, selector 0x24 (R156). -/
def execAlarmHourDecode (buf : Buf) (mode : HourMode) (s : State) : StepOutcome :=
  respond s ((alarmHourDecode buf mode).map Value.alarmHour)

/-- ALARM_HOUR_ENCODE, selector 0x25 (R157). -/
def execAlarmHourEncode (a : AlarmHourIn) (mode : HourMode) (s : State) : StepOutcome :=
  respond s ((alarmHourEncode a mode).map Value.buf)

/-- ALARM_DAY_DECODE, selector 0x26 (R158). -/
def execAlarmDayDecode (buf : Buf) (s : State) : StepOutcome :=
  respond s ((alarmDayDecode buf).map Value.alarmDay)

/-- ALARM_DAY_ENCODE, selector 0x27 (R159). -/
def execAlarmDayEncode (a : AlarmDayIn) (s : State) : StepOutcome :=
  respond s ((alarmDayEncode a).map Value.buf)

/-- ALARM_WEEKDAY_DECODE, selector 0x28 (R160). -/
def execAlarmWeekdayDecode (buf : Buf) (s : State) : StepOutcome :=
  respond s ((alarmWeekdayDecode buf).map Value.alarmWeekday)

/-- ALARM_WEEKDAY_ENCODE, selector 0x29 (R161). -/
def execAlarmWeekdayEncode (a : AlarmWeekdayIn) (s : State) : StepOutcome :=
  respond s ((alarmWeekdayEncode a).map Value.buf)

/-- ALARM_DECODE, selector 0x2A (R162). -/
def execAlarmDecode (buf : Buf) (mode : HourMode) (s : State) : StepOutcome :=
  respond s ((alarmDecode buf mode).map Value.alarm)

/-- ALARM_ENCODE, selector 0x2B (R163). -/
def execAlarmEncode (a : AlarmIn) (mode : HourMode) (s : State) : StepOutcome :=
  respond s ((alarmEncode a mode).map Value.buf)

end Sys2Proof.Machine
end

