-- ==== Sys2Proof/Machine/Marshalling.lean ====
section
/-! DEFINITION. Register marshalling (45_marshalling.md R210-R236): the meanings of selectors 0x40-0x51. Each is a GET or a
SET of R210 over the group's codec; the addresses and lengths are those of R230. -/

namespace Sys2Proof.Machine

/-- GET_PROFILE, selector 0x40 (R212). -/
def execGetProfile (s : State) : StepOutcome :=
  getGroup s addrControl1 lenProfile fun buf => (profileDecode buf).map Value.profile

/-- SET_CONTROL1, selector 0x41 (R213). -/
def execSetControl1 (c : Control1In) (s : State) : StepOutcome :=
  setRange s addrControl1 (control1Encode c)

/-- SET_CONTROL2, selector 0x42 (R214). -/
def execSetControl2 (c : Control2In) (s : State) : StepOutcome :=
  setRange s addrControl2 (control2Encode c)

/-- SET_CONTROL3, selector 0x43 (R215). -/
def execSetControl3 (c : Control3In) (s : State) : StepOutcome :=
  setRange s addrControl3 (control3Encode c)

/-- GET_TIME, selector 0x44 (R216). -/
def execGetTime (mode : Option HourMode) (century : Option Int) (s : State) : StepOutcome :=
  getGroup s addrTime lenTime fun buf =>
    (timeDecode buf (effectiveMode s mode) (effectiveCentury s century)).map Value.time

/-- SET_TIME, selector 0x45 (R217). -/
def execSetTime (t : TimeIn) (mode : Option HourMode) (century : Option Int) (s : State) : StepOutcome :=
  setRange s addrTime (timeEncode t (effectiveMode s mode) (effectiveCentury s century))

/-- GET_ALARM, selector 0x46 (R218). -/
def execGetAlarm (mode : Option HourMode) (s : State) : StepOutcome :=
  getGroup s addrAlarm lenAlarm fun buf => (alarmDecode buf (effectiveMode s mode)).map Value.alarm

/-- SET_ALARM, selector 0x47 (R219). -/
def execSetAlarm (a : AlarmIn) (mode : Option HourMode) (s : State) : StepOutcome :=
  setRange s addrAlarm (alarmEncode a (effectiveMode s mode))

/-- GET_OFFSET, selector 0x48 (R220). -/
def execGetOffset (s : State) : StepOutcome :=
  getGroup s addrOffset lenOffset fun buf => (offsetDecode buf).map Value.offset

/-- SET_OFFSET, selector 0x49 (R221). -/
def execSetOffset (o : OffsetIn) (s : State) : StepOutcome :=
  setRange s addrOffset (offsetEncode o)

/-- GET_TIMER, selector 0x4A (R222). -/
def execGetTimer (s : State) : StepOutcome :=
  getGroup s addrTimerControl lenTimer fun buf => (timerBlockDecode buf).map Value.timerBlock

/-- SET_TIMER, selector 0x4B (R223): all five timer registers. -/
def execSetTimer (t : TimerBlockIn) (s : State) : StepOutcome :=
  setRange s addrTimerControl (timerBlockEncode t)

/-- SET_TIMER_CONTROL, selector 0x4C (R224). -/
def execSetTimerControl (c : TimerControlIn) (s : State) : StepOutcome :=
  setRange s addrTimerControl (timerControlEncode c)

/-- SET_TIMER_A_FREQ, selector 0x4D (R225). -/
def execSetTimerAFreq (f : TimerAFreqIn) (s : State) : StepOutcome :=
  setRange s addrTimerAFreq (timerAFreqEncode f)

/-- SET_TIMER_A_VALUE, selector 0x4E (R226). -/
def execSetTimerAValue (v : TimerValueIn) (s : State) : StepOutcome :=
  setRange s addrTimerAValue (timerValueEncode v)

/-- SET_TIMER_B_FREQ, selector 0x4F (R227). -/
def execSetTimerBFreq (f : TimerBFreqIn) (s : State) : StepOutcome :=
  setRange s addrTimerBFreq (timerBFreqEncode f)

/-- SET_TIMER_B_VALUE, selector 0x50 (R228). -/
def execSetTimerBValue (v : TimerValueIn) (s : State) : StepOutcome :=
  setRange s addrTimerBValue (timerValueEncode v)

/-- SOFT_RESET, selector 0x51 (R229): one write of 0x58 to Control1; the block's own state is not touched, and what the
device does is out of scope (00_scope.md R5). -/
def execSoftReset (s : State) : StepOutcome :=
  putRange s addrControl1 [softResetByte]

end Sys2Proof.Machine
end

