-- ==== Sys2Proof/Machine/Dispatch.lean ====
section
/-! DEFINITION. Each operation's meaning, one arm per row of opcode_table.json (30_encoding.md R81 step 3). -/

namespace Sys2Proof.Machine

/-- The operation map (R85): what performing an operation does to the machine. -/
def exec (i : Instr) (s : State) : Host.Outcome State Fault Refusal :=
  match i with
  | .bitsExtract b f => Sys2Proof.Machine.execBitsExtract b f s
  | .bitsPack fields values => Sys2Proof.Machine.execBitsPack fields values s
  | .bcdDecode b tens units => Sys2Proof.Machine.execBcdDecode b tens units s
  | .bcdEncode v tens units => Sys2Proof.Machine.execBcdEncode v tens units s
  | .tc7Decode raw => Sys2Proof.Machine.execTc7Decode raw s
  | .tc7Encode v => Sys2Proof.Machine.execTc7Encode v s
  | .yearDecode y2 century => Sys2Proof.Machine.execYearDecode y2 century s
  | .yearEncode year4digit century => Sys2Proof.Machine.execYearEncode year4digit century s
  | .hourTo24 hour pm => Sys2Proof.Machine.execHourTo24 hour pm s
  | .weekdayName idx => Sys2Proof.Machine.execWeekdayName idx s
  | .monthName monthsValue => Sys2Proof.Machine.execMonthName monthsValue s
  | .control1Decode buf => Sys2Proof.Machine.execControl1Decode buf s
  | .control1Encode c => Sys2Proof.Machine.execControl1Encode c s
  | .control2Decode buf => Sys2Proof.Machine.execControl2Decode buf s
  | .control2Encode c => Sys2Proof.Machine.execControl2Encode c s
  | .control3Decode buf => Sys2Proof.Machine.execControl3Decode buf s
  | .control3Encode c => Sys2Proof.Machine.execControl3Encode c s
  | .profileDecode buf => Sys2Proof.Machine.execProfileDecode buf s
  | .timeDecode buf mode century => Sys2Proof.Machine.execTimeDecode buf mode century s
  | .timeEncode t mode century => Sys2Proof.Machine.execTimeEncode t mode century s
  | .alarmMinuteDecode buf => Sys2Proof.Machine.execAlarmMinuteDecode buf s
  | .alarmMinuteEncode a => Sys2Proof.Machine.execAlarmMinuteEncode a s
  | .alarmHourDecode buf mode => Sys2Proof.Machine.execAlarmHourDecode buf mode s
  | .alarmHourEncode a mode => Sys2Proof.Machine.execAlarmHourEncode a mode s
  | .alarmDayDecode buf => Sys2Proof.Machine.execAlarmDayDecode buf s
  | .alarmDayEncode a => Sys2Proof.Machine.execAlarmDayEncode a s
  | .alarmWeekdayDecode buf => Sys2Proof.Machine.execAlarmWeekdayDecode buf s
  | .alarmWeekdayEncode a => Sys2Proof.Machine.execAlarmWeekdayEncode a s
  | .alarmDecode buf mode => Sys2Proof.Machine.execAlarmDecode buf mode s
  | .alarmEncode a mode => Sys2Proof.Machine.execAlarmEncode a mode s
  | .offsetDecode buf => Sys2Proof.Machine.execOffsetDecode buf s
  | .offsetEncode o => Sys2Proof.Machine.execOffsetEncode o s
  | .timerControlDecode buf => Sys2Proof.Machine.execTimerControlDecode buf s
  | .timerControlEncode c => Sys2Proof.Machine.execTimerControlEncode c s
  | .timerAFreqDecode buf => Sys2Proof.Machine.execTimerAFreqDecode buf s
  | .timerAFreqEncode f => Sys2Proof.Machine.execTimerAFreqEncode f s
  | .timerBFreqDecode buf => Sys2Proof.Machine.execTimerBFreqDecode buf s
  | .timerBFreqEncode f => Sys2Proof.Machine.execTimerBFreqEncode f s
  | .timerValueDecode buf => Sys2Proof.Machine.execTimerValueDecode buf s
  | .timerValueEncode v => Sys2Proof.Machine.execTimerValueEncode v s
  | .timerBlockDecode buf => Sys2Proof.Machine.execTimerBlockDecode buf s
  | .timerBlockEncode t => Sys2Proof.Machine.execTimerBlockEncode t s
  | .timerDuration sourceClock ticks => Sys2Proof.Machine.execTimerDuration sourceClock ticks s
  | .getProfile => Sys2Proof.Machine.execGetProfile s
  | .setControl1 c => Sys2Proof.Machine.execSetControl1 c s
  | .setControl2 c => Sys2Proof.Machine.execSetControl2 c s
  | .setControl3 c => Sys2Proof.Machine.execSetControl3 c s
  | .getTime mode century => Sys2Proof.Machine.execGetTime mode century s
  | .setTime t mode century => Sys2Proof.Machine.execSetTime t mode century s
  | .getAlarm mode => Sys2Proof.Machine.execGetAlarm mode s
  | .setAlarm a mode => Sys2Proof.Machine.execSetAlarm a mode s
  | .getOffset => Sys2Proof.Machine.execGetOffset s
  | .setOffset o => Sys2Proof.Machine.execSetOffset o s
  | .getTimer => Sys2Proof.Machine.execGetTimer s
  | .setTimer t => Sys2Proof.Machine.execSetTimer t s
  | .setTimerControl c => Sys2Proof.Machine.execSetTimerControl c s
  | .setTimerAFreq f => Sys2Proof.Machine.execSetTimerAFreq f s
  | .setTimerAValue v => Sys2Proof.Machine.execSetTimerAValue v s
  | .setTimerBFreq f => Sys2Proof.Machine.execSetTimerBFreq f s
  | .setTimerBValue v => Sys2Proof.Machine.execSetTimerBValue v s
  | .softReset => Sys2Proof.Machine.execSoftReset s

end Sys2Proof.Machine
end

