-- ==== Sys2Proof/Machine/Program.lean ====
section
/-! DEFINITION. The program model (45_marshalling.md R236): one turn of the requester's loop around the block's dispatch
(30_encoding.md R81). -/

namespace Sys2Proof.Machine

/-- Perform or reject one request (R81); a record that is not its selector's is refused by name (log 8). -/
def performRequest (s : State) (r : Request) : StepOutcome :=
  match dispatch s.unimplemented r with
  | .perform i => exec i s
  | .reject e => respond s (.error e)
  | .mismatch sel => .refused (.operandMismatch sel)

/-- One turn of R236's loop. While the run is going on: past the program's end it returns `Done`; else the next
request is performed. A run that has returned stays as it is (log 7). -/
def turn (s : State) : StepOutcome :=
  match s.status with
  | .running =>
    match fetch s with
    | none => .next s.finish
    | some r => performRequest s r
  | .done => .next s
  | .faulted _ => .next s

end Sys2Proof.Machine
end

