-- ==== Sys2Proof/Machine/Step.lean ====
section
/-! DEFINITION. One step of the machine, and the placing of a table word where the next step fetches it. -/

namespace Sys2Proof.Machine

/-- One step: one turn of the requester's loop (45_marshalling.md R236). -/
def step (s : State) : Host.Outcome State Fault Refusal := turn s

/-- `s` with the request of table word `w` (its record all zero) placed where the next step fetches it, and a run going
on: the stand-in for a program loaded from outside (log 6). -/
def State.withFetchWord (s : State) (_nbits w : Nat) : State :=
  { s with prog := placeRequest s.prog s.pc (tableRequest w), status := .running }

end Sys2Proof.Machine
end

