-- ==== Sys2Proof/Safety.lean ====
section
/-! DEFINITION. What counts as a safe state: the run's bookkeeping fits (45_marshalling.md R236), the image keeps its
canonical form, and every transaction issued so far is one the block may issue (R230) with bytes the register formats
allow (10_state.md R46, 30_encoding.md R84). -/

namespace Sys2Proof.Machine

/-- The reads of R230: start address and length. -/
def listedReads : List (Nat × Nat) := [(0x00, 3), (0x03, 7), (0x0A, 4), (0x0E, 1), (0x0F, 5)]

/-- The writes of R230: start address and length. -/
def listedWrites : List (Nat × Nat) :=
  [(0x00, 1), (0x01, 1), (0x02, 1), (0x03, 7), (0x0A, 4), (0x0E, 1), (0x0F, 5), (0x0F, 1), (0x10, 1), (0x11, 1),
    (0x12, 1), (0x13, 1)]

/-- The bits of a device register that every encode writes 0: the bits no field covers, and the read-only flags
without a clear intent (R26-R45, R46; 92_eei_decisions.md D4). The hours registers are taken in the layout that
uses more bits. -/
def writtenZero (addr : Nat) : Byte :=
  match addr with
  | 0x00 => 0x50
  | 0x01 => 0x80
  | 0x02 => 0x10
  | 0x03 => 0x80
  | 0x04 => 0x80
  | 0x05 => 0xC0
  | 0x06 => 0xC0
  | 0x07 => 0xF8
  | 0x08 => 0xE0
  | 0x0B => 0x40
  | 0x0C => 0x40
  | 0x0D => 0x78
  | 0x10 => 0xF8
  | 0x12 => 0x88
  | _ => 0x00

/-- The bits of a device register that every encode writes 1: Control3's bit 2 (R28, R46 `FIXED1`). -/
def writtenOne (addr : Nat) : Byte := if addr = 0x02 then 0x04 else 0x00

/-- A register whose low four bits are the units of a BCD value (R29-R32, R34-R38). -/
def bcdRegister (addr : Nat) : Bool :=
  [0x03, 0x04, 0x05, 0x06, 0x08, 0x09, 0x0A, 0x0B, 0x0C].contains addr

/-- A byte an encode may write to register `addr`: written-0 bits 0, written-1 bits 1, power mode never 110 (R135), a BCD
units digit at most 9 (R103), a weekday at most 6 (R152, R161). -/
def registerWriteOk (addr : Nat) (b : Byte) : Bool :=
  (b &&& writtenZero addr == 0) && (b &&& writtenOne addr == writtenOne addr)
    && (addr != 0x02 || b.toNat / 32 != 6)
    && (!bcdRegister addr || decide (b.toNat % 16 ≤ 9))
    && (!(addr == 0x07 || addr == 0x0D) || decide (b.toNat % 8 ≤ 6))

/-- Each byte may be written to its register (R62). -/
def blockWriteOk (addr : Nat) (data : Buf) : Bool :=
  match data with
  | [] => true
  | b :: rest => registerWriteOk addr b && blockWriteOk (addr + 1) rest

/-- A transaction the block may issue (R230): a listed read; the soft reset (R229); or a listed write of bytes that
follow the register formats. -/
def transactionAllowed (t : Transaction) : Bool :=
  match t with
  | .read addr n => listedReads.contains (addr.toNat, n)
  | .write addr data =>
    (addr == 0x00 && data == [0x58])
      || (listedWrites.contains (addr.toNat, data.length) && blockWriteOk addr.toNat data)

/-- The run's standing fits the program index (R236). -/
def statusFits (status : RunStatus) (pc len : Nat) : Bool :=
  match status with
  | .running => true
  | .done => pc == len
  | .faulted _ => decide (pc < len)

/-- The invariant of the machine. -/
abbrev State.Inv (s : State) : Prop :=
  s.trace.length = s.pc ∧ s.pc ≤ s.prog.length ∧ statusFits s.status s.pc s.prog.length = true
    ∧ s.img.wf = true ∧ s.busLog.all transactionAllowed = true

end Sys2Proof.Machine
end

