-- ==== Sys2Proof/Certificates/Slice0/Obligations.lean ====
section
/-! DEFINITION. The statements for the provers. The first half writes the rules of spec/ a second time, as arithmetic on
numbers and as tables (no shift, no mask, no call of the machine's codec); the second half states that the machine does
what they say. -/

namespace Sys2Proof.Spec

open Sys2Proof.Machine

/-! ## Responses and errors -/

/-- A request has been answered (45_marshalling.md R236, 60_exceptions.md R242, R247): a result joins the trace and the
program index advances by one; an error ends the run. Nothing else of the machine changes. -/
def answered (s : State) (r : Except BlockError Value) : State :=
  match r with
  | .ok v => { s with trace := s.trace ++ [v], pc := s.pc + 1 }
  | .error e => { s with status := .faulted e }

/-- An error whose info is a field name (60_exceptions.md R240). -/
def err (kind : ErrorKind) (field : FieldName) : BlockError := ⟨kind, ⟨some field, none, none, none, none⟩⟩

/-- An error with a field name and a text. -/
def errText (kind : ErrorKind) (field : FieldName) (text : String) : BlockError :=
  ⟨kind, ⟨some field, some text, none, none, none⟩⟩

/-- A `LengthError` (60_exceptions.md R240, R241). -/
def tooShort (need got : Nat) : BlockError := ⟨.lengthError, ⟨some .buf, none, some need, some got, none⟩⟩

/-- An error whose info is the selector. -/
def errSel (kind : ErrorKind) (sel : Byte) : BlockError := ⟨kind, ⟨none, none, none, none, some sel⟩⟩

/-- `BusError`, with the bus's message if any. -/
def busFailed (message : Option String) : BlockError := ⟨.busError, ⟨none, message, none, none, none⟩⟩

/-- The first failing check is the error; if none fails, the value. -/
def firstOf {α : Type} (checks : List (Bool × BlockError)) (ok : α) : Except BlockError α :=
  match checks with
  | [] => .ok ok
  | (true, e) :: _ => .error e
  | (false, _) :: rest => firstOf rest ok

/-! ## Numbers in bytes -/

/-- `b[k] = 1`. -/
def bitAt (b : Byte) (k : Nat) : Bool := b.toNat / 2 ^ k % 2 == 1

/-- The `w`-bit field of `b` whose least significant bit is bit `lo`. -/
def field (b : Byte) (lo w : Nat) : Int := (b.toNat / 2 ^ lo % 2 ^ w : Nat)

/-- BCD with the units in bits 3:0 and `w` bits of tens above them. -/
def digits (b : Byte) (w : Nat) : Int := 10 * field b 4 w + field b 0 4

/-- A Bool at bit `k`. -/
def flag (x : Bool) (k : Nat) : Nat := if x then 2 ^ k else 0

def byteOf (n : Nat) : Byte := BitVec.ofNat 8 n

/-- The BCD of a number of two digits. -/
def bcd2 (v : Int) : Nat := ((v / 10) * 16 + v % 10).toNat

/-- `v` is not in `lo..hi`. -/
def out (v lo hi : Int) : Bool := decide (v < lo ∨ hi < v)

/-! ## Field descriptors (41_primitives.md, helper) -/

/-- The descriptor is a field of a byte. -/
abbrev isField (f : FieldDesc) : Prop :=
  1 ≤ f.w ∧ f.w ≤ 8 ∧ 0 ≤ f.pos ∧ f.pos ≤ 7 ∧ 0 ≤ f.pos - f.w + 1

/-- The field's least significant bit. -/
def low (f : FieldDesc) : Nat := (f.pos - f.w + 1).toNat

/-- The field covers bit `k`. -/
abbrev coversBit (f : FieldDesc) (k : Int) : Prop := f.pos - f.w + 1 ≤ k ∧ k ≤ f.pos

/-- Two fields have a bit in common. -/
abbrev meet (f g : FieldDesc) : Prop := f.pos - f.w + 1 ≤ g.pos ∧ g.pos - g.w + 1 ≤ f.pos

/-- `v` does not fit the field. -/
abbrev misfits (f : FieldDesc) (v : Int) : Prop := v < 0 ∨ 2 ^ f.w.toNat ≤ v

/-! ## Control registers (42_control.md) -/

def control1Of (b : Byte) : Control1 :=
  ⟨if bitAt b 7 then .cap12_5pF else .cap7pF, bitAt b 5, bitAt b 3, bitAt b 2, bitAt b 1, bitAt b 0⟩

def control1Bytes (c : Control1In) : Except BlockError Buf :=
  let rest := flag c.stop 5 + flag c.twelveHourMode 3 + flag c.secondInterruptEnabled 2
    + flag c.alarmInterruptEnabled 1 + flag c.correctionInterruptEnabled 0
  match c.capacitorSelection with
  | .cap7pF => .ok [byteOf rest]
  | .cap12_5pF => .ok [byteOf (128 + rest)]
  | .other _ => .error (err .unknownEnumError .capacitorSelection)

def control2Of (b : Byte) : Control2 :=
  ⟨bitAt b 7, bitAt b 6, bitAt b 5, bitAt b 4, bitAt b 3, bitAt b 2, bitAt b 1, bitAt b 0⟩

/-- A flag is written 0 to clear it and 1 to preserve it; bit 7 is written 0. -/
def control2Bytes (c : Control2In) : Except BlockError Buf :=
  .ok [byteOf (flag (!c.clearCountdownAFlag) 6 + flag (!c.clearCountdownBFlag) 5 + flag (!c.clearSecondFlag) 4
    + flag (!c.clearAlarmFlag) 3 + flag c.watchdogAInterruptEnabled 2 + flag c.countdownAInterruptEnabled 1
    + flag c.countdownBInterruptEnabled 0)]

/-- The power-mode table of R136, read from the code: BLD, SO, DS. -/
def powerOf (code : Nat) : Bool × Bool × Option Bool :=
  match code with
  | 0 => (true, true, some false)
  | 1 => (true, true, some true)
  | 2 => (true, false, none)
  | 3 => (true, false, none)
  | 4 => (false, true, some false)
  | 5 => (false, true, some true)
  | _ => (false, false, none)

/-- The power-mode table of R136, read from (BLD, SO, DS): code 6 is the illegal 110. -/
def powerCode (bld so ds : Bool) : Nat :=
  match bld, so, ds with
  | true, true, false => 0
  | true, true, true => 1
  | true, false, false => 2
  | true, false, true => 3
  | false, true, false => 4
  | false, true, true => 5
  | false, false, false => 6
  | false, false, true => 7

def control3Of (b : Byte) : Control3 :=
  let p := powerOf (b.toNat / 32)
  ⟨p.1, p.2.1, p.2.2, bitAt b 3, bitAt b 2, bitAt b 1, bitAt b 0⟩

def control3Bytes (c : Control3In) : Except BlockError Buf :=
  let code := powerCode c.pmBatteryLowDetectionEnabled c.pmSwitchoverEnabled c.pmDirectSwitchingEnabled
  if code = 6 then .error (errText .rangeError .powerMode "illegal power mode 110")
  else .ok [byteOf (32 * code + flag (!c.clearBatterySwitchoverFlag) 3 + 4 + flag c.switchoverInterruptEnabled 1
    + flag c.batteryLowInterruptEnabled 0)]

/-- A decode of a one-byte group: bytes past it are ignored. -/
def decoded1 (buf : Buf) (f : Byte → Value) : Except BlockError Value :=
  match buf with
  | b :: _ => .ok (f b)
  | [] => .error (tooShort 1 0)

def profileOf (buf : Buf) : Except BlockError Value :=
  match buf with
  | b0 :: b1 :: b2 :: _ => .ok (.profile ⟨control1Of b0, control2Of b1, control3Of b2⟩)
  | _ => .error (tooShort 3 buf.length)

/-! ## Names (41_primitives.md R110, R111) -/

def weekdayOf (idx : Int) : Option WeekdayName :=
  [((0 : Int), WeekdayName.sunday), (1, .monday), (2, .tuesday), (3, .wednesday), (4, .thursday), (5, .friday),
    (6, .saturday)].lookup idx

def monthOf (m : Int) : Option MonthName :=
  [((1 : Int), MonthName.january), (2, .february), (3, .march), (4, .april), (5, .may), (6, .june), (7, .july),
    (8, .august), (9, .september), (10, .october), (11, .november), (12, .december)].lookup m

/-! ## Time and alarm (43_time_alarm.md) -/

/-- The hour of an hours byte: two bits of tens in 24-hour mode, one in 12-hour mode. -/
def hourOf (mode : HourMode) (b : Byte) : Int :=
  match mode with
  | .h24 => digits b 2
  | .h12 => digits b 1

/-- The hour on the 24-hour scale, 12 o'clock not remapped (41_primitives.md R108, R109). -/
def hour24Of (hour : Int) (pm : Bool) : Int := hour + if pm then 12 else 0

def timeOf (buf : Buf) (mode : HourMode) (century : Int) : Except BlockError Value :=
  match buf with
  | sec :: min :: hr :: day :: wd :: mon :: yr :: _ =>
    let hour := hourOf mode hr
    .ok (.time
      { integrity := !bitAt sec 7
        second := digits sec 3
        minute := digits min 3
        hour := hour
        hour24 := if mode = .h12 then hour24Of hour (bitAt hr 5) else hour
        pm := if mode = .h12 then some (bitAt hr 5) else none
        day := digits day 2
        weekdayValue := field wd 0 3
        weekday := weekdayOf (field wd 0 3)
        monthsValue := digits mon 1
        month := monthOf (digits mon 1)
        year4digit := century + digits yr 4 })
  | _ => .error (tooShort 7 buf.length)

/-- `pm` is not given where it is required. -/
def pmAbsent (mode : HourMode) (pm : Option Bool) : Bool := decide (mode = .h12 ∧ pm = none)

/-- The hour is outside its domain in the mode. -/
def hourBad (mode : HourMode) (hour : Int) : Bool :=
  match mode with
  | .h24 => out hour 0 23
  | .h12 => out hour 1 12

/-- The hours byte's number: in 12-hour mode bit 5 is the PM bit; in 24-hour mode `pm` is ignored. -/
def hourNum (mode : HourMode) (hour : Int) (pm : Option Bool) : Nat :=
  match mode with
  | .h24 => bcd2 hour
  | .h12 => flag (decide (pm = some true)) 5 + bcd2 hour

/-- TIME_ENCODE's checks in order, then its seven bytes. -/
def timeGroupBytes (t : TimeIn) (mode : HourMode) (century : Int) : Except BlockError Buf :=
  firstOf
    [ (out t.second 0 59, err .rangeError .second)
    , (out t.minute 0 59, err .rangeError .minute)
    , (pmAbsent mode t.pm, err .missingRequiredFieldError .pm)
    , (hourBad mode t.hour, err .rangeError .hour)
    , (out t.day 1 31, err .rangeError .day)
    , (out t.weekdayValue 0 6, err .rangeError .weekdayValue)
    , (out t.monthsValue 1 12, err .rangeError .monthsValue)
    , (decide (t.year4digit < century), errText .rangeError .year4digit "year precedes configured century")
    , (decide (century + 100 ≤ t.year4digit),
        errText .rangeError .year4digit "year exceeds configured century span") ]
    [ byteOf (bcd2 t.second), byteOf (bcd2 t.minute), byteOf (hourNum mode t.hour t.pm), byteOf (bcd2 t.day)
    , byteOf t.weekdayValue.toNat, byteOf (bcd2 t.monthsValue), byteOf (bcd2 (t.year4digit - century)) ]

def alarmMinuteOf (b : Byte) : AlarmMinute := ⟨digits b 3, !bitAt b 7⟩

def alarmMinuteBytes (a : AlarmMinuteIn) : Except BlockError Buf :=
  firstOf [(out a.minute 0 59, err .rangeError .minute)] [byteOf (flag (!a.minuteEnabled) 7 + bcd2 a.minute)]

def alarmHourOf (mode : HourMode) (b : Byte) : AlarmHour :=
  match mode with
  | .h24 => ⟨digits b 2, !bitAt b 7, none, none⟩
  | .h12 => ⟨digits b 1, !bitAt b 7, some (bitAt b 5), some (hour24Of (digits b 1) (bitAt b 5))⟩

def alarmHourBytes (a : AlarmHourIn) (mode : HourMode) : Except BlockError Buf :=
  firstOf [(pmAbsent mode a.pm, err .missingRequiredFieldError .pm), (hourBad mode a.hour, err .rangeError .hour)]
    [byteOf (flag (!a.hourEnabled) 7 + hourNum mode a.hour a.pm)]

def alarmDayOf (b : Byte) : AlarmDay := ⟨digits b 2, !bitAt b 7⟩

def alarmDayBytes (a : AlarmDayIn) : Except BlockError Buf :=
  firstOf [(out a.day 1 31, err .rangeError .day)] [byteOf (flag (!a.dayEnabled) 7 + bcd2 a.day)]

def alarmWeekdayOf (b : Byte) : AlarmWeekday := ⟨field b 0 3, !bitAt b 7⟩

def alarmWeekdayBytes (a : AlarmWeekdayIn) : Except BlockError Buf :=
  firstOf [(out a.weekdayValue 0 6, err .rangeError .weekdayValue)]
    [byteOf (flag (!a.weekdayEnabled) 7 + a.weekdayValue.toNat)]

/-- The alarm group decoded: the union of the four records. -/
def alarmOf (buf : Buf) (mode : HourMode) : Except BlockError Value :=
  match buf with
  | m :: h :: d :: w :: _ =>
    .ok (.alarm
      ⟨digits m 3, !bitAt m 7, (alarmHourOf mode h).hour, !bitAt h 7, (alarmHourOf mode h).pm,
        (alarmHourOf mode h).hour24, digits d 2, !bitAt d 7, field w 0 3, !bitAt w 7⟩)
  | _ => .error (tooShort 4 buf.length)

/-- ALARM_ENCODE: the checks of minute, hour, day and weekday in that order, then four bytes. -/
def alarmBytes (a : AlarmIn) (mode : HourMode) : Except BlockError Buf :=
  firstOf
    [ (out a.minute 0 59, err .rangeError .minute)
    , (pmAbsent mode a.pm, err .missingRequiredFieldError .pm)
    , (hourBad mode a.hour, err .rangeError .hour)
    , (out a.day 1 31, err .rangeError .day)
    , (out a.weekdayValue 0 6, err .rangeError .weekdayValue) ]
    [ byteOf (flag (!a.minuteEnabled) 7 + bcd2 a.minute)
    , byteOf (flag (!a.hourEnabled) 7 + hourNum mode a.hour a.pm)
    , byteOf (flag (!a.dayEnabled) 7 + bcd2 a.day)
    , byteOf (flag (!a.weekdayEnabled) 7 + a.weekdayValue.toNat) ]

/-! ## Offset and timers (44_offset_timer.md) -/

/-- A 7-bit two's-complement number. -/
def signed7 (raw : Int) : Int := if 64 ≤ raw then raw - 128 else raw

def offsetOf (b : Byte) : Offset :=
  let v := signed7 (field b 0 7)
  if bitAt b 7 then ⟨.everyMinute, v, (v : Rat) * (4069 / 1000)⟩ else ⟨.everyTwoHours, v, (v : Rat) * (434 / 100)⟩

def offsetBytes (o : OffsetIn) : Except BlockError Buf :=
  firstOf [(out o.offsetValue (-64) 63, err .rangeError .offsetValue)]
    [byteOf (flag (decide (o.mode = .everyMinute)) 7 + (o.offsetValue % 128).toNat)]

/-- The CLOCKOUT table of R184. -/
def cofOf (code : Nat) : CofName :=
  [CofName.clk32768Hz, .clk16384Hz, .clk8192Hz, .clk4096Hz, .clk1024Hz, .clk32Hz, .clk1Hz].getD code .clkDisabled

/-- The timer-A modes of R185. -/
def tacOf (code : Nat) : TacName :=
  [TacName.taDisabled, .taCountdown, .taWatchdog].getD code .taDisabledAlt

/-- The clock names of R188. -/
def srcNameOf (code : Nat) : Option SrcName :=
  [SrcName.src4096Hz, .src64Hz, .src1Hz, .src1_60Hz, .src1_3600Hz, .src1_3600Hz, .src1_3600Hz][code]?

/-- The pulse widths of R189 in milliseconds, as fractions. -/
def widthOf (code : Nat) : Rat :=
  [(375 / 8 : Rat), 125 / 2, 625 / 8, 375 / 4, 125, 625 / 4, 375 / 2].getD code (875 / 4)

def timerControlOf (b : Byte) : TimerControl :=
  let cof := b.toNat / 8 % 8
  let tac := b.toNat / 2 % 4
  ⟨bitAt b 7, bitAt b 6, ⟨BitVec.ofNat 3 cof, cofOf cof⟩, ⟨BitVec.ofNat 2 tac, tacOf tac⟩, bitAt b 0⟩

def timerControlByte (c : TimerControlIn) : Byte :=
  byteOf (flag c.timerAInterruptPulseMode 7 + flag c.timerBInterruptPulseMode 6 + 8 * c.clockOutFrequency.toNat
    + 2 * c.timerAControl.toNat + flag c.countdownTimerBEnabled 0)

def srcCodeOf (b : Byte) : CodedSrc := ⟨BitVec.ofNat 3 (b.toNat % 8), srcNameOf (b.toNat % 8)⟩

def timerAFreqOf (b : Byte) : TimerAFreq := ⟨srcCodeOf b⟩

def timerAFreqByte (f : TimerAFreqIn) : Byte := byteOf f.sourceClock.toNat

def timerBFreqOf (b : Byte) : TimerBFreq :=
  let w := b.toNat / 16 % 8
  ⟨⟨BitVec.ofNat 3 w, widthOf w⟩, srcCodeOf b⟩

def timerBFreqByte (f : TimerBFreqIn) : Byte := byteOf (16 * f.pulseWidth.toNat + f.sourceClock.toNat)

def timerValueBytes (v : TimerValueIn) : Except BlockError Buf :=
  firstOf [(out v.value 0 255, err .rangeError .value)] [byteOf v.value.toNat]

def timerBlockOf (buf : Buf) : Except BlockError Value :=
  match buf with
  | c :: fa :: va :: fb :: vb :: _ =>
    .ok (.timerBlock ⟨timerControlOf c, timerAFreqOf fa, ⟨va⟩, timerBFreqOf fb, ⟨vb⟩⟩)
  | _ => .error (tooShort 5 buf.length)

def timerBlockBytes (t : TimerBlockIn) : Except BlockError Buf :=
  firstOf
    [(out t.timerAValue.value 0 255, err .rangeError .value), (out t.timerBValue.value 0 255, err .rangeError .value)]
    [ timerControlByte t.control, timerAFreqByte t.timerAFrequency, byteOf t.timerAValue.value.toNat
    , timerBFreqByte t.timerBFrequency, byteOf t.timerBValue.value.toNat ]

/-- A source clock as (p, q) with hz = p/q (R198), and its preferred units (R188). -/
def clockOf (sourceClock : Int) : Option (Int × Int × List TimeUnit) :=
  [ ((0 : Int), ((4096 : Int), (1 : Int), [TimeUnit.microseconds, .milliseconds]))
  , (1, (64, 1, [.milliseconds, .seconds]))
  , (2, (1, 1, [.seconds]))
  , (3, (1, 60, [.minutes]))
  , (4, (1, 3600, [.hours]))
  , (5, (1, 3600, [.hours]))
  , (6, (1, 3600, [.hours])) ].lookup sourceClock

/-- Truncation to three decimals. -/
def thousandths (x : Rat) : Rat := (⌊x * 1000⌋ : Rat) / 1000

/-- TIMER_DURATION (R197): ticks first, then the source clock. -/
def durationAnswer (sourceClock ticks : Int) : Except BlockError Value :=
  if ticks < 0 ∨ 255 < ticks then .error (err .rangeError .ticks)
  else
    match clockOf sourceClock with
    | none => .error (errText .rangeError .sourceClock "no known frequency mapping")
    | some (p, q, units) =>
      let sec : Rat := (ticks : Rat) / ((p : Rat) / (q : Rat))
      .ok (.duration ⟨thousandths (sec * 1000000), thousandths (sec * 1000), thousandths sec, thousandths (sec / 60),
        thousandths (sec / 3600), units⟩)

/-! ## The bus -/

/-- Transaction `t` has been issued and answered, leaving the collaborator as `bus` and the image as `img`. -/
def onBus (s : State) (t : Transaction) (bus : Bus) (img : Memory) : State :=
  { s with bus := bus, img := img, busLog := s.busLog ++ [t] }

/-- What the answer to a read comes to: the decode of the buffer, or `BusError` (45_marshalling.md R210). -/
def readThen (reply : BusReply) (dec : Buf → Except BlockError Value) : Except BlockError Value :=
  match reply with
  | .ok buf => dec buf
  | .error m => .error (busFailed m)

/-- What the answer to a write comes to: the unit result, or `BusError`. -/
def writeThen (reply : BusReply) : Except BlockError Value :=
  match reply with
  | .ok _ => .ok .unit
  | .error m => .error (busFailed m)

/-- `i` is a GET of `(addr, n)` (45_marshalling.md R210): whatever the bus answers to that one read, `exec` answers the
next state in which the read has been issued and its decode is the response. -/
def IsGet (i : Instr) (s : State) (addr : Byte) (n : Nat) (dec : Buf → Except BlockError Value) : Prop :=
  ∀ reply bus img, busAnswer s (.read addr n) = (some reply, bus, img) →
    exec i s = .next (answered (onBus s (.read addr n) bus img) (readThen reply dec))

/-- `i` is a SET at `addr` (45_marshalling.md R210): an encode error is the response and no transaction is issued; else,
whatever the bus answers to the one write of the encoded bytes, `exec` answers the next state in which it has been
issued. -/
def IsSet (i : Instr) (s : State) (addr : Byte) (enc : Except BlockError Buf) : Prop :=
  (∀ e, enc = .error e → exec i s = .next (answered s (.error e))) ∧
  ∀ v reply bus img, enc = .ok v → busAnswer s (.write addr v) = (some reply, bus, img) →
    exec i s = .next (answered (onBus s (.write addr v) bus img) (writeThen reply))

/-- A row of the transaction table of R230. -/
structure Row where
  isWrite : Bool
  addr : Nat
  len : Nat
deriving DecidableEq, Repr

/-- The transaction table (45_marshalling.md R230); a Codec operation has no row. -/
def row (i : Instr) : Option Row :=
  match i with
  | .getProfile => some ⟨false, 0x00, 3⟩
  | .setControl1 _ => some ⟨true, 0x00, 1⟩
  | .setControl2 _ => some ⟨true, 0x01, 1⟩
  | .setControl3 _ => some ⟨true, 0x02, 1⟩
  | .getTime _ _ => some ⟨false, 0x03, 7⟩
  | .setTime _ _ _ => some ⟨true, 0x03, 7⟩
  | .getAlarm _ => some ⟨false, 0x0A, 4⟩
  | .setAlarm _ _ => some ⟨true, 0x0A, 4⟩
  | .getOffset => some ⟨false, 0x0E, 1⟩
  | .setOffset _ => some ⟨true, 0x0E, 1⟩
  | .getTimer => some ⟨false, 0x0F, 5⟩
  | .setTimer _ => some ⟨true, 0x0F, 5⟩
  | .setTimerControl _ => some ⟨true, 0x0F, 1⟩
  | .setTimerAFreq _ => some ⟨true, 0x10, 1⟩
  | .setTimerAValue _ => some ⟨true, 0x11, 1⟩
  | .setTimerBFreq _ => some ⟨true, 0x12, 1⟩
  | .setTimerBValue _ => some ⟨true, 0x13, 1⟩
  | .softReset => some ⟨true, 0x00, 1⟩
  | _ => none

/-- What a SET sends: its encode (R213-R229), with the overrides of R211; an operation that writes nothing has none. -/
def sent (cfg : Cfg) (i : Instr) : Option (Except BlockError Buf) :=
  match i with
  | .setControl1 c => some (control1Bytes c)
  | .setControl2 c => some (control2Bytes c)
  | .setControl3 c => some (control3Bytes c)
  | .setTime t mode century => some (timeGroupBytes t (mode.getD cfg.hourMode) (century.getD cfg.century))
  | .setAlarm a mode => some (alarmBytes a (mode.getD cfg.hourMode))
  | .setOffset o => some (offsetBytes o)
  | .setTimer t => some (timerBlockBytes t)
  | .setTimerControl c => some (.ok [timerControlByte c])
  | .setTimerAFreq f => some (.ok [timerAFreqByte f])
  | .setTimerAValue v => some (timerValueBytes v)
  | .setTimerBFreq f => some (.ok [timerBFreqByte f])
  | .setTimerBValue v => some (timerValueBytes v)
  | .softReset => some (.ok [0x58])
  | _ => none

/-- The cause table of 60_exceptions.md R241: the selectors that can raise the error of each code (R240). Codes 5 and 7
are dispatch's alone. -/
def raisedBy (code : Nat) : List Nat :=
  match code with
  | 1 => [0x10, 0x12, 0x14, 0x16, 0x20, 0x22, 0x24, 0x26, 0x28, 0x2A, 0x30, 0x32, 0x34, 0x36, 0x38, 0x3A, 0x40, 0x44,
      0x46, 0x48, 0x4A]
  | 2 => [0x01, 0x02, 0x03, 0x04, 0x05, 0x06, 0x08, 0x15, 0x21, 0x23, 0x25, 0x27, 0x29, 0x2B, 0x31, 0x39, 0x3B, 0x3C,
      0x43, 0x45, 0x47, 0x49, 0x4B, 0x4E, 0x50]
  | 3 => [0x21, 0x25, 0x2B, 0x45, 0x47]
  | 4 => [0x11, 0x41]
  | 6 => [0x40, 0x41, 0x42, 0x43, 0x44, 0x45, 0x46, 0x47, 0x48, 0x49, 0x4A, 0x4B, 0x4C, 0x4D, 0x4E, 0x4F, 0x50, 0x51]
  | _ => []

/-- The transaction is the one row `r` lists. -/
def ofRow (r : Row) (t : Transaction) : Prop :=
  match t with
  | .read a n => r = ⟨false, a.toNat, n⟩
  | .write a v => r = ⟨true, a.toNat, v.length⟩

def isWrite (t : Transaction) : Prop :=
  match t with
  | .read _ _ => False
  | .write _ _ => True

/-! ## Requests -/

/-- The selectors of 30_encoding.md R86: those that name no operation. -/
def illegalSel (n : Nat) : Prop :=
  n = 0x00 ∨ (0x0C ≤ n ∧ n ≤ 0x0F) ∨ (0x17 ≤ n ∧ n ≤ 0x1F) ∨ (0x2C ≤ n ∧ n ≤ 0x2F) ∨ (0x3D ≤ n ∧ n ≤ 0x3F)
    ∨ (0x52 ≤ n ∧ n ≤ 0xFF)

/-- Between `s` and `s'` the requester has been given response `r`. -/
def responded (s s' : State) (r : Except BlockError Value) : Prop :=
  s'.trace = (answered s r).trace ∧ s'.pc = (answered s r).pc ∧ s'.status = (answered s r).status

end Sys2Proof.Spec

open Sys2Proof Sys2Proof.Machine Sys2Proof.Spec

/-! ## The machine -/

/-- 70_reset_and_hazards.md R261 (and R260, R20): construction issues no bus transaction, reads no Control1 to learn the
hour mode, writes no register: the configuration is the arguments, and the collaborator is as given. The last two clauses
are the model's choices: the image lists nothing and so reads 0 (log 4), and no program is loaded (log 6). -/
def Obligations.ConstructionIssuesNoTransaction : Prop :=
  ∀ (century : Int) (mode : HourMode) (bus : Bus) (unimplemented : List Byte),
    (State.construct century mode bus unimplemented).busLog = [] ∧
    (State.construct century mode bus unimplemented).bus = bus ∧
    (State.construct century mode bus unimplemented).cfg = ⟨century, mode⟩ ∧
    (∀ a, (State.construct century mode bus unimplemented).img.readByte a = 0) ∧
    fetch (State.construct century mode bus unimplemented) = none

/-- The state after reset meets the invariant of Safety.lean. The empty image is the model's choice (log 4). -/
def Obligations.ResetMeetsInvariant : Prop := State.reset.Inv

/-- Every step keeps the invariant of Safety.lean: the run's bookkeeping fits the program index (45_marshalling.md R236),
the image stays canonical (the model's own form, log 4), and every transaction issued is one of R230's, its bytes within
the register formats of 10_state.md R26-R45. -/
def Obligations.StepKeepsInvariant : Prop :=
  ∀ s s' : State, s.Inv → step s = .next s' → s'.Inv

/-- 10_state.md R20, 70_reset_and_hazards.md R262: no step changes the configuration; nor the build profile or the
program. -/
def Obligations.StepKeepsConfiguration : Prop :=
  ∀ s s' : State, step s = .next s' →
    s'.cfg = s.cfg ∧ s'.unimplemented = s.unimplemented ∧ s'.prog = s.prog

/-- A step runs the decoded request: while the run is going on, and the next request decodes to `i` and is in the build
profile, a step is `exec i` and nothing else. -/
def Obligations.StepRunsDecodedRequest : Prop :=
  ∀ (s : State) (r : Request) (i : Instr), s.status = .running → s.prog[s.pc]? = some r → decode r = .ok i →
    r.sel ∉ s.unimplemented → step s = exec i s

/-- 30_encoding.md R81: the order of dispatch, and that its first two steps issue no transaction. -/
def Obligations.DispatchOrder : Prop :=
  ∀ (s : State) (r : Request), s.status = .running → s.prog[s.pc]? = some r →
    (illegalSel r.sel.toNat → step s = .next (answered s (.error (errSel .illegalOperation r.sel)))) ∧
    (¬ illegalSel r.sel.toNat → r.sel ∈ s.unimplemented →
      step s = .next (answered s (.error (errSel .notImplementedError r.sel)))) ∧
    (∀ i, ¬ illegalSel r.sel.toNat → r.sel ∉ s.unimplemented → decode r = .ok i → step s = exec i s)

/-- 30_encoding.md R86: the illegal selectors are exactly those no operation of R85 has, and each raises
`IllegalOperation` with the selector, whatever the record, with no transaction and no result. -/
def Obligations.IllegalSelectorsRaise : Prop :=
  (∀ sel : Byte, illegalSel sel.toNat ↔ ∀ i, (encode i).sel ≠ sel) ∧
  ∀ (s : State) (r : Request), s.status = .running → s.prog[s.pc]? = some r → illegalSel r.sel.toNat →
    step s = .next { s with status := .faulted (errSel .illegalOperation r.sel) }

/-- 30_encoding.md R87: a selector of R85 that the build profile leaves out raises `NotImplementedError` with the
selector and issues no transaction; for this hardware the profile leaves out none. -/
def Obligations.UnimplementedSelectorsRaise : Prop :=
  State.reset.unimplemented = [] ∧
  ∀ (s : State) (r : Request) (i : Instr), s.status = .running → s.prog[s.pc]? = some r → r.sel = (encode i).sel →
    r.sel ∈ s.unimplemented → step s = .next { s with status := .faulted (errSel .notImplementedError r.sel) }

/-- The model's choice (log 8): a record that is not its selector's type is refused by name. 30_encoding.md R82 says
such a value cannot be written. -/
def Obligations.IllTypedRecordIsRefused : Prop :=
  ∀ (s : State) (r : Request), s.status = .running → s.prog[s.pc]? = some r → ¬ illegalSel r.sel.toNat →
    r.sel ∉ s.unimplemented → recordMatches r.sel r.ops = false → step s = .refused (.operandMismatch r.sel)

/-! ## Requests (30_encoding.md) -/

/-- Decode and encode agree, for every operation and every operand: the request the encoder writes decodes to the
operation, and a request that decodes to it is that request once its omitted defaults are written out. -/
def Obligations.DecodeAndEncodeAgree : Prop :=
  ∀ i : Instr, decode (encode i) = .ok i ∧ ∀ r, decode r = .ok i → (⟨r.sel, r.ops.explicit⟩ : Request) = encode i

/-- The requests that decode are exactly the well-formed ones (30_encoding.md R80, R85). -/
def Obligations.DecodesExactlyWellFormed : Prop :=
  ∀ r : Request, (∃ i, decode r = .ok i) ↔ r.wellFormed = true

/-- Requests written out from 30_encoding.md R85 and R90, one per family, decode to the operations they stand for. -/
def Obligations.WrittenRequestsDecode : Prop :=
  decode ⟨0b00000001, .bitsExtract 0x31 ⟨5, 1⟩⟩ = .ok (.bitsExtract 0x31 ⟨5, 1⟩) ∧
  decode ⟨0b00010001, .control1 ⟨.cap12_5pF, false, true, false, true, false⟩⟩ =
    .ok (.control1Encode ⟨.cap12_5pF, false, true, false, true, false⟩) ∧
  decode ⟨0b00100100, .bufMode [0x31] .h12⟩ = .ok (.alarmHourDecode [0x31] .h12) ∧
  decode ⟨0b00111100, .timerDuration 2 255⟩ = .ok (.timerDuration 2 255) ∧
  decode ⟨0b01001001, .offset ⟨.everyTwoHours, -42⟩⟩ = .ok (.setOffset ⟨.everyTwoHours, -42⟩) ∧
  decode ⟨0b01010001, .empty⟩ = .ok .softReset ∧
  decodeTableWord 8 0b01001010 = some .getTimer ∧ decodeTableWord 8 0b01010010 = none

/-- 30_encoding.md R83: an omitted clear intent or alarm enable is `false`, whichever of them are omitted. -/
def Obligations.OmittedFieldsAreFalse : Prop :=
  (∀ x y z, decode ⟨0x13, .control2 ⟨x, y, z, none, none, none, none⟩⟩ =
    .ok (.control2Encode ⟨x, y, z, false, false, false, false⟩)) ∧
  (∀ r : Control2Req, decode ⟨0x42, .control2 r⟩ = .ok (.setControl2
    ⟨r.watchdogAInterruptEnabled, r.countdownAInterruptEnabled, r.countdownBInterruptEnabled,
      r.clearCountdownAFlag.getD false, r.clearCountdownBFlag.getD false, r.clearSecondFlag.getD false,
      r.clearAlarmFlag.getD false⟩)) ∧
  (∀ a b c d e, decode ⟨0x43, .control3 ⟨a, b, c, d, e, none⟩⟩ = .ok (.setControl3 ⟨a, b, c, d, e, false⟩)) ∧
  (∀ m, decode ⟨0x23, .alarmMinute ⟨m, none⟩⟩ = .ok (.alarmMinuteEncode ⟨m, false⟩)) ∧
  (∀ h pm mode, decode ⟨0x25, .alarmHour ⟨h, pm, none⟩ mode⟩ = .ok (.alarmHourEncode ⟨h, pm, false⟩ mode)) ∧
  (∀ d, decode ⟨0x27, .alarmDay ⟨d, none⟩⟩ = .ok (.alarmDayEncode ⟨d, false⟩)) ∧
  (∀ w, decode ⟨0x29, .alarmWeekday ⟨w, none⟩⟩ = .ok (.alarmWeekdayEncode ⟨w, false⟩)) ∧
  (∀ (r : AlarmReq) (mode : Option HourMode), decode ⟨0x47, .alarmOpt r mode⟩ = .ok (.setAlarm
    ⟨r.minute, r.minuteEnabled.getD false, r.hour, r.pm, r.hourEnabled.getD false, r.day, r.dayEnabled.getD false,
      r.weekdayValue, r.weekdayEnabled.getD false⟩ mode))

/-! ## Primitives (41_primitives.md) -/

/-- R100. -/
def Obligations.BitsExtractResult : Prop :=
  ∀ (b : Byte) (f : FieldDesc) (s : State), (encode (.bitsExtract b f)).sel = 0x01 ∧
    exec (.bitsExtract b f) s = .next (answered s
      (if isField f then .ok (.int (field b (low f) f.w.toNat)) else .error (err .rangeError .f)))

/-- R101: the four checks in order; then the byte whose every field holds its value and whose other bits are 0. -/
def Obligations.BitsPackResult : Prop :=
  ∀ (fields : List FieldDesc) (values : List Int) (s : State), (encode (.bitsPack fields values)).sel = 0x02 ∧
    (fields.length ≠ values.length →
      exec (.bitsPack fields values) s = .next (answered s (.error (err .rangeError .values)))) ∧
    (fields.length = values.length →
      ((∃ f ∈ fields, ¬ isField f) →
        exec (.bitsPack fields values) s = .next (answered s (.error (err .rangeError .fields)))) ∧
      ((∀ f ∈ fields, isField f) →
        (¬ fields.Pairwise (fun f g => ¬ meet f g) →
          exec (.bitsPack fields values) s = .next (answered s (.error (err .rangeError .fields)))) ∧
        (fields.Pairwise (fun f g => ¬ meet f g) →
          ((∃ p ∈ fields.zip values, misfits p.1 p.2) →
            exec (.bitsPack fields values) s = .next (answered s (.error (err .rangeError .values)))) ∧
          ((∀ p ∈ fields.zip values, ¬ misfits p.1 p.2) →
            ∃ r, exec (.bitsPack fields values) s = .next (answered s (.ok (.byte r))) ∧
              (∀ p ∈ fields.zip values, field r (low p.1) p.1.w.toNat = p.2) ∧
              ∀ k : Nat, k < 8 → (∀ f ∈ fields, ¬ coversBit f k) → bitAt r k = false))))

/-- R102. -/
def Obligations.BcdDecodeResult : Prop :=
  ∀ (b : Byte) (tens units : FieldDesc) (s : State), (encode (.bcdDecode b tens units)).sel = 0x03 ∧
    exec (.bcdDecode b tens units) s = .next (answered s
      (firstOf [(decide (¬ isField tens), err .rangeError .tens), (decide (¬ isField units), err .rangeError .units)]
        (.int (10 * field b (low tens) tens.w.toNat + field b (low units) units.w.toNat))))

/-- R103. -/
def Obligations.BcdEncodeResult : Prop :=
  ∀ (v : Int) (tens units : FieldDesc) (s : State), (encode (.bcdEncode v tens units)).sel = 0x04 ∧
    exec (.bcdEncode v tens units) s = .next (answered s
      (firstOf
        [ (decide (¬ isField tens), err .rangeError .tens)
        , (decide (¬ isField units), err .rangeError .units)
        , (decide (meet tens units), err .rangeError .tens)
        , (out v 0 99, err .rangeError .v)
        , (decide (misfits tens (v / 10) ∨ misfits units (v % 10)), err .rangeError .v) ]
        (.byte (byteOf ((v / 10).toNat * 2 ^ low tens + (v % 10).toNat * 2 ^ low units)))))

/-- R113, with the units digit required to fit its field as well: where it does not, R103 raises an error. -/
def Obligations.BcdRoundTrip : Prop :=
  ∀ (v : Int) (tens units : FieldDesc) (s s' : State), isField tens → isField units → ¬ meet tens units →
    0 ≤ v → v ≤ 99 → v / 10 < 2 ^ tens.w.toNat → v % 10 < 2 ^ units.w.toNat →
    ∃ b, exec (.bcdEncode v tens units) s = .next (answered s (.ok (.byte b))) ∧
      exec (.bcdDecode b tens units) s' = .next (answered s' (.ok (.int v)))

/-- R104, R105. -/
def Obligations.Tc7Results : Prop :=
  ∀ (raw v : Int) (s : State),
    (encode (.tc7Decode raw)).sel = 0x05 ∧ (encode (.tc7Encode v)).sel = 0x06 ∧
    exec (.tc7Decode raw) s =
      .next (answered s (firstOf [(out raw 0 127, err .rangeError .raw)] (.int (signed7 raw)))) ∧
    exec (.tc7Encode v) s =
      .next (answered s (firstOf [(out v (-64) 63, err .rangeError .offsetValue)] (.int (v % 128))))

/-- R114: TC7_ENCODE is a bijection from [-64, 63] onto 0..127, and TC7_DECODE is its inverse. -/
def Obligations.Tc7Bijection : Prop :=
  (∀ v : Int, -64 ≤ v → v ≤ 63 → ∃ r, 0 ≤ r ∧ r ≤ 127 ∧ ∀ s,
    exec (.tc7Encode v) s = .next (answered s (.ok (.int r))) ∧
    exec (.tc7Decode r) s = .next (answered s (.ok (.int v)))) ∧
  (∀ r : Int, 0 ≤ r → r ≤ 127 → ∃ v, -64 ≤ v ∧ v ≤ 63 ∧ ∀ s,
    exec (.tc7Decode r) s = .next (answered s (.ok (.int v))) ∧
    exec (.tc7Encode v) s = .next (answered s (.ok (.int r))))

/-- R106, R107, and the round trip R115. -/
def Obligations.YearResults : Prop :=
  ∀ (y2 y c : Int) (s : State),
    (encode (.yearDecode y2 c)).sel = 0x07 ∧ (encode (.yearEncode y c)).sel = 0x08 ∧
    exec (.yearDecode y2 c) s = .next (answered s (.ok (.int (c + y2)))) ∧
    exec (.yearEncode y c) s = .next (answered s
      (firstOf
        [ (decide (y < c), errText .rangeError .year4digit "year precedes configured century")
        , (decide (c + 100 ≤ y), errText .rangeError .year4digit "year exceeds configured century span") ]
        (.int (y - c)))) ∧
    (c ≤ y → y ≤ c + 99 → exec (.yearDecode (y - c) c) s = .next (answered s (.ok (.int y))))

/-- R110, R111. -/
def Obligations.NameResults : Prop :=
  ∀ (x : Int) (s : State),
    (encode (.weekdayName x)).sel = 0x0A ∧ (encode (.monthName x)).sel = 0x0B ∧
    exec (.weekdayName x) s = .next (answered s (.ok (.weekdayName (weekdayOf x)))) ∧
    exec (.monthName x) s = .next (answered s (.ok (.monthName (monthOf x))))

/-- R108 and R109: HOUR_TO_24, and 12 o'clock is not remapped, there or in the two decodes that use it. -/
def Obligations.TwelveOClockIsNotRemapped : Prop :=
  (∀ (hour : Int) (pm : Bool) (s : State), (encode (.hourTo24 hour pm)).sel = 0x09 ∧
    exec (.hourTo24 hour pm) s = .next (answered s (.ok (.int (hour24Of hour pm))))) ∧
  (∀ s, exec (.hourTo24 12 false) s = .next (answered s (.ok (.int 12))) ∧
    exec (.hourTo24 12 true) s = .next (answered s (.ok (.int 24)))) ∧
  (∀ (h : Byte) (rest : Buf) (s : State), digits h 1 = 12 →
    ∃ a, exec (.alarmHourDecode (h :: rest) .h12) s = .next (answered s (.ok (.alarmHour a))) ∧ a.hour = 12 ∧
      a.hour24 = some (if bitAt h 5 then 24 else 12)) ∧
  (∀ (b0 b1 h b3 b4 b5 b6 : Byte) (rest : Buf) (century : Int) (s : State), digits h 1 = 12 →
    ∃ t, exec (.timeDecode (b0 :: b1 :: h :: b3 :: b4 :: b5 :: b6 :: rest) .h12 century) s =
        .next (answered s (.ok (.time t))) ∧ t.hour = 12 ∧ t.hour24 = if bitAt h 5 then 24 else 12)

/-! ## Control registers (42_control.md) -/

/-- R130, R131. -/
def Obligations.Control1Results : Prop :=
  ∀ (buf : Buf) (c : Control1In) (s : State),
    (encode (.control1Decode buf)).sel = 0x10 ∧ (encode (.control1Encode c)).sel = 0x11 ∧
    exec (.control1Decode buf) s = .next (answered s (decoded1 buf fun b => .control1 (control1Of b))) ∧
    exec (.control1Encode c) s = .next (answered s ((control1Bytes c).map .buf))

/-- R132, R133, and the defaults of R133: an omitted clear intent is `false`. -/
def Obligations.Control2Results : Prop :=
  ∀ (buf : Buf) (c : Control2In) (s : State),
    (encode (.control2Decode buf)).sel = 0x12 ∧ (encode (.control2Encode c)).sel = 0x13 ∧
    exec (.control2Decode buf) s = .next (answered s (decoded1 buf fun b => .control2 (control2Of b))) ∧
    exec (.control2Encode c) s = .next (answered s ((control2Bytes c).map .buf)) ∧
    ∀ r : Control2Req, decode ⟨0x13, .control2 r⟩ = .ok (.control2Encode
      ⟨r.watchdogAInterruptEnabled, r.countdownAInterruptEnabled, r.countdownBInterruptEnabled,
        r.clearCountdownAFlag.getD false, r.clearCountdownBFlag.getD false, r.clearSecondFlag.getD false,
        r.clearAlarmFlag.getD false⟩)

/-- R134, R135, through the table of R136; an omitted clear intent is `false`. -/
def Obligations.Control3Results : Prop :=
  ∀ (buf : Buf) (c : Control3In) (s : State),
    (encode (.control3Decode buf)).sel = 0x14 ∧ (encode (.control3Encode c)).sel = 0x15 ∧
    exec (.control3Decode buf) s = .next (answered s (decoded1 buf fun b => .control3 (control3Of b))) ∧
    exec (.control3Encode c) s = .next (answered s ((control3Bytes c).map .buf)) ∧
    ∀ r : Control3Req, decode ⟨0x15, .control3 r⟩ = .ok (.control3Encode
      ⟨r.pmBatteryLowDetectionEnabled, r.pmSwitchoverEnabled, r.pmDirectSwitchingEnabled,
        r.switchoverInterruptEnabled, r.batteryLowInterruptEnabled, r.clearBatterySwitchoverFlag.getD false⟩)

/-- R137. -/
def Obligations.ProfileDecodeResult : Prop :=
  ∀ (buf : Buf) (s : State), (encode (.profileDecode buf)).sel = 0x16 ∧
    exec (.profileDecode buf) s = .next (answered s (profileOf buf))

/-! ## Time and alarm (43_time_alarm.md) -/

/-- R151. -/
def Obligations.TimeDecodeResult : Prop :=
  ∀ (buf : Buf) (mode : HourMode) (century : Int) (s : State), (encode (.timeDecode buf mode century)).sel = 0x20 ∧
    exec (.timeDecode buf mode century) s = .next (answered s (timeOf buf mode century))

/-- R152. -/
def Obligations.TimeEncodeResult : Prop :=
  ∀ (t : TimeIn) (mode : HourMode) (century : Int) (s : State), (encode (.timeEncode t mode century)).sel = 0x21 ∧
    exec (.timeEncode t mode century) s = .next (answered s ((timeGroupBytes t mode century).map .buf))

/-- R153: the time round trip, for every time TIME_ENCODE accepts. -/
def Obligations.TimeRoundTrip : Prop :=
  ∀ (t : TimeIn) (mode : HourMode) (century : Int) (s : State) (v : Buf),
    exec (.timeEncode t mode century) s = .next (answered s (.ok (.buf v))) →
    ∃ d, (∀ s', exec (.timeDecode v mode century) s' = .next (answered s' (.ok (.time d)))) ∧
      d.second = t.second ∧ d.minute = t.minute ∧ d.hour = t.hour ∧ d.day = t.day ∧
      d.weekdayValue = t.weekdayValue ∧ d.monthsValue = t.monthsValue ∧ d.year4digit = t.year4digit ∧
      d.integrity = true ∧ d.pm = (if mode = .h12 then t.pm else none) ∧
      d.hour24 = if mode = .h12 then hour24Of t.hour (decide (t.pm = some true)) else t.hour

/-- R154, R155; an omitted enable is `false`. -/
def Obligations.AlarmMinuteResults : Prop :=
  ∀ (buf : Buf) (a : AlarmMinuteIn) (s : State),
    (encode (.alarmMinuteDecode buf)).sel = 0x22 ∧ (encode (.alarmMinuteEncode a)).sel = 0x23 ∧
    exec (.alarmMinuteDecode buf) s = .next (answered s (decoded1 buf fun b => .alarmMinute (alarmMinuteOf b))) ∧
    exec (.alarmMinuteEncode a) s = .next (answered s ((alarmMinuteBytes a).map .buf)) ∧
    ∀ r : AlarmMinuteReq, decode ⟨0x23, .alarmMinute r⟩ =
      .ok (.alarmMinuteEncode ⟨r.minute, r.minuteEnabled.getD false⟩)

/-- R156, R157; an omitted enable is `false`. -/
def Obligations.AlarmHourResults : Prop :=
  ∀ (buf : Buf) (a : AlarmHourIn) (mode : HourMode) (s : State),
    (encode (.alarmHourDecode buf mode)).sel = 0x24 ∧ (encode (.alarmHourEncode a mode)).sel = 0x25 ∧
    exec (.alarmHourDecode buf mode) s = .next (answered s (decoded1 buf fun b => .alarmHour (alarmHourOf mode b))) ∧
    exec (.alarmHourEncode a mode) s = .next (answered s ((alarmHourBytes a mode).map .buf)) ∧
    ∀ r : AlarmHourReq, decode ⟨0x25, .alarmHour r mode⟩ =
      .ok (.alarmHourEncode ⟨r.hour, r.pm, r.hourEnabled.getD false⟩ mode)

/-- R158, R159, R160, R161; an omitted enable is `false`. -/
def Obligations.AlarmDayAndWeekdayResults : Prop :=
  ∀ (buf : Buf) (a : AlarmDayIn) (w : AlarmWeekdayIn) (s : State),
    (encode (.alarmDayDecode buf)).sel = 0x26 ∧ (encode (.alarmDayEncode a)).sel = 0x27 ∧
    (encode (.alarmWeekdayDecode buf)).sel = 0x28 ∧ (encode (.alarmWeekdayEncode w)).sel = 0x29 ∧
    exec (.alarmDayDecode buf) s = .next (answered s (decoded1 buf fun b => .alarmDay (alarmDayOf b))) ∧
    exec (.alarmDayEncode a) s = .next (answered s ((alarmDayBytes a).map .buf)) ∧
    exec (.alarmWeekdayDecode buf) s =
      .next (answered s (decoded1 buf fun b => .alarmWeekday (alarmWeekdayOf b))) ∧
    exec (.alarmWeekdayEncode w) s = .next (answered s ((alarmWeekdayBytes w).map .buf)) ∧
    (∀ r : AlarmDayReq, decode ⟨0x27, .alarmDay r⟩ = .ok (.alarmDayEncode ⟨r.day, r.dayEnabled.getD false⟩)) ∧
    ∀ r : AlarmWeekdayReq, decode ⟨0x29, .alarmWeekday r⟩ =
      .ok (.alarmWeekdayEncode ⟨r.weekdayValue, r.weekdayEnabled.getD false⟩)

/-- R162, R163; each omitted enable is `false`. -/
def Obligations.AlarmGroupResults : Prop :=
  ∀ (buf : Buf) (a : AlarmIn) (mode : HourMode) (s : State),
    (encode (.alarmDecode buf mode)).sel = 0x2A ∧ (encode (.alarmEncode a mode)).sel = 0x2B ∧
    exec (.alarmDecode buf mode) s = .next (answered s (alarmOf buf mode)) ∧
    exec (.alarmEncode a mode) s = .next (answered s ((alarmBytes a mode).map .buf)) ∧
    ∀ r : AlarmReq, decode ⟨0x2B, .alarm r mode⟩ = .ok (.alarmEncode
      ⟨r.minute, r.minuteEnabled.getD false, r.hour, r.pm, r.hourEnabled.getD false, r.day, r.dayEnabled.getD false,
        r.weekdayValue, r.weekdayEnabled.getD false⟩ mode)

/-- R164: the alarm round trip, for every alarm ALARM_ENCODE accepts. -/
def Obligations.AlarmRoundTrip : Prop :=
  ∀ (a : AlarmIn) (mode : HourMode) (s : State) (v : Buf),
    exec (.alarmEncode a mode) s = .next (answered s (.ok (.buf v))) →
    ∃ d, (∀ s', exec (.alarmDecode v mode) s' = .next (answered s' (.ok (.alarm d)))) ∧
      d.minute = a.minute ∧ d.minuteEnabled = a.minuteEnabled ∧ d.hour = a.hour ∧ d.hourEnabled = a.hourEnabled ∧
      d.day = a.day ∧ d.dayEnabled = a.dayEnabled ∧ d.weekdayValue = a.weekdayValue ∧
      d.weekdayEnabled = a.weekdayEnabled ∧ d.pm = if mode = .h12 then a.pm else none

/-! ## Offset and timers (44_offset_timer.md) -/

/-- R180, R181, with the factors of R182. -/
def Obligations.OffsetResults : Prop :=
  ∀ (buf : Buf) (o : OffsetIn) (s : State),
    (encode (.offsetDecode buf)).sel = 0x30 ∧ (encode (.offsetEncode o)).sel = 0x31 ∧
    exec (.offsetDecode buf) s = .next (answered s (decoded1 buf fun b => .offset (offsetOf b))) ∧
    exec (.offsetEncode o) s = .next (answered s ((offsetBytes o).map .buf))

/-- R183, R186, with the tables R184 and R185. -/
def Obligations.TimerControlResults : Prop :=
  ∀ (buf : Buf) (c : TimerControlIn) (s : State),
    (encode (.timerControlDecode buf)).sel = 0x32 ∧ (encode (.timerControlEncode c)).sel = 0x33 ∧
    exec (.timerControlDecode buf) s = .next (answered s (decoded1 buf fun b => .timerControl (timerControlOf b))) ∧
    exec (.timerControlEncode c) s = .next (answered s (.ok (.buf [timerControlByte c])))

/-- R187, R190, R191, R192, with the names of R188 and the widths of R189. -/
def Obligations.TimerFrequencyResults : Prop :=
  ∀ (buf : Buf) (fa : TimerAFreqIn) (fb : TimerBFreqIn) (s : State),
    (encode (.timerAFreqDecode buf)).sel = 0x34 ∧ (encode (.timerAFreqEncode fa)).sel = 0x35 ∧
    (encode (.timerBFreqDecode buf)).sel = 0x36 ∧ (encode (.timerBFreqEncode fb)).sel = 0x37 ∧
    exec (.timerAFreqDecode buf) s = .next (answered s (decoded1 buf fun b => .timerAFreq (timerAFreqOf b))) ∧
    exec (.timerAFreqEncode fa) s = .next (answered s (.ok (.buf [timerAFreqByte fa]))) ∧
    exec (.timerBFreqDecode buf) s = .next (answered s (decoded1 buf fun b => .timerBFreq (timerBFreqOf b))) ∧
    exec (.timerBFreqEncode fb) s = .next (answered s (.ok (.buf [timerBFreqByte fb])))

/-- R193, R194. -/
def Obligations.TimerValueResults : Prop :=
  ∀ (buf : Buf) (v : TimerValueIn) (s : State),
    (encode (.timerValueDecode buf)).sel = 0x38 ∧ (encode (.timerValueEncode v)).sel = 0x39 ∧
    exec (.timerValueDecode buf) s = .next (answered s (decoded1 buf fun b => .timerValue ⟨b⟩)) ∧
    exec (.timerValueEncode v) s = .next (answered s ((timerValueBytes v).map .buf))

/-- R195, R196. -/
def Obligations.TimerBlockResults : Prop :=
  ∀ (buf : Buf) (t : TimerBlockIn) (s : State),
    (encode (.timerBlockDecode buf)).sel = 0x3A ∧ (encode (.timerBlockEncode t)).sel = 0x3B ∧
    exec (.timerBlockDecode buf) s = .next (answered s (timerBlockOf buf)) ∧
    exec (.timerBlockEncode t) s = .next (answered s ((timerBlockBytes t).map .buf))

/-- R199: the timer configuration laws. -/
def Obligations.TimerConfigurationLaws : Prop :=
  (∀ (t : TimerBlockIn) (s : State), 0 ≤ t.timerAValue.value → t.timerAValue.value ≤ 255 →
    0 ≤ t.timerBValue.value → t.timerBValue.value ≤ 255 →
    ∃ v d, exec (.timerBlockEncode t) s = .next (answered s (.ok (.buf v))) ∧
      (∀ s', exec (.timerBlockDecode v) s' = .next (answered s' (.ok (.timerBlock d)))) ∧
      d.control.timerAInterruptPulseMode = t.control.timerAInterruptPulseMode ∧
      d.control.timerBInterruptPulseMode = t.control.timerBInterruptPulseMode ∧
      d.control.clockOutFrequency.code = t.control.clockOutFrequency ∧
      d.control.timerAControl.code = t.control.timerAControl ∧
      d.control.countdownTimerBEnabled = t.control.countdownTimerBEnabled ∧
      d.timerAFrequency.sourceClock.code = t.timerAFrequency.sourceClock ∧
      (d.timerAValue.value.toNat : Int) = t.timerAValue.value ∧
      d.timerBFrequency.pulseWidth.code = t.timerBFrequency.pulseWidth ∧
      d.timerBFrequency.sourceClock.code = t.timerBFrequency.sourceClock ∧
      (d.timerBValue.value.toNat : Int) = t.timerBValue.value) ∧
  (∀ b : Byte, ∃ d, ∀ s, exec (.timerControlDecode [b]) s = .next (answered s (.ok (.timerControl d))) ∧
    exec (.timerControlEncode ⟨d.timerAInterruptPulseMode, d.timerBInterruptPulseMode, d.clockOutFrequency.code,
      d.timerAControl.code, d.countdownTimerBEnabled⟩) s = .next (answered s (.ok (.buf [b])))) ∧
  (∀ b : Byte, ∃ d, ∀ s, exec (.timerAFreqDecode [b]) s = .next (answered s (.ok (.timerAFreq d))) ∧
    exec (.timerAFreqEncode ⟨d.sourceClock.code⟩) s = .next (answered s (.ok (.buf [b &&& 0x07])))) ∧
  (∀ b : Byte, ∃ d, ∀ s, exec (.timerBFreqDecode [b]) s = .next (answered s (.ok (.timerBFreq d))) ∧
    exec (.timerBFreqEncode ⟨d.pulseWidth.code, d.sourceClock.code⟩) s =
      .next (answered s (.ok (.buf [b &&& 0x77]))))

/-- R197, with the clocks and preferred units of R188. -/
def Obligations.TimerDurationResult : Prop :=
  ∀ (sourceClock ticks : Int) (s : State), (encode (.timerDuration sourceClock ticks)).sel = 0x3C ∧
    exec (.timerDuration sourceClock ticks) s = .next (answered s (durationAnswer sourceClock ticks))

/-- R198: each duration is k/1000 for an integer k that integer arithmetic alone computes. -/
def Obligations.TimerDurationIntegerForm : Prop :=
  ∀ (sourceClock ticks p q : Int) (units : List TimeUnit) (s : State), 0 ≤ ticks → ticks ≤ 255 →
    clockOf sourceClock = some (p, q, units) →
    ∃ d, exec (.timerDuration sourceClock ticks) s = .next (answered s (.ok (.duration d))) ∧
      d.microseconds = ((ticks * q * 1000000000 / p : Int) : Rat) / 1000 ∧
      d.milliseconds = ((ticks * q * 1000000 / p : Int) : Rat) / 1000 ∧
      d.seconds = ((ticks * q * 1000 / p : Int) : Rat) / 1000 ∧
      d.minutes = ((ticks * q * 1000 / (60 * p) : Int) : Rat) / 1000 ∧
      d.hours = ((ticks * q * 1000 / (3600 * p) : Int) : Rat) / 1000

/-! ## Register marshalling (45_marshalling.md) -/

/-- R212, R220, R222. -/
def Obligations.GetGroupResults : Prop :=
  ∀ s : State,
    (encode .getProfile).sel = 0x40 ∧ (encode .getOffset).sel = 0x48 ∧ (encode .getTimer).sel = 0x4A ∧
    IsGet .getProfile s 0x00 3 profileOf ∧
    IsGet .getOffset s 0x0E 1 (fun buf => decoded1 buf fun b => .offset (offsetOf b)) ∧
    IsGet .getTimer s 0x0F 5 timerBlockOf

/-- R216, R218, with the overrides of R211: an absent mode or century is the configuration's. -/
def Obligations.GetTimeAndAlarmResults : Prop :=
  ∀ (mode : Option HourMode) (century : Option Int) (s : State),
    (encode (.getTime mode century)).sel = 0x44 ∧ (encode (.getAlarm mode)).sel = 0x46 ∧
    IsGet (.getTime mode century) s 0x03 7
      (fun buf => timeOf buf (mode.getD s.cfg.hourMode) (century.getD s.cfg.century)) ∧
    IsGet (.getAlarm mode) s 0x0A 4 (fun buf => alarmOf buf (mode.getD s.cfg.hourMode))

/-- R213, R214, R215. -/
def Obligations.SetControlResults : Prop :=
  ∀ (c1 : Control1In) (c2 : Control2In) (c3 : Control3In) (s : State),
    (encode (.setControl1 c1)).sel = 0x41 ∧ (encode (.setControl2 c2)).sel = 0x42 ∧
    (encode (.setControl3 c3)).sel = 0x43 ∧
    IsSet (.setControl1 c1) s 0x00 (control1Bytes c1) ∧
    IsSet (.setControl2 c2) s 0x01 (control2Bytes c2) ∧
    IsSet (.setControl3 c3) s 0x02 (control3Bytes c3)

/-- R217, R219, with the overrides of R211. -/
def Obligations.SetTimeAndAlarmResults : Prop :=
  ∀ (t : TimeIn) (a : AlarmIn) (mode : Option HourMode) (century : Option Int) (s : State),
    (encode (.setTime t mode century)).sel = 0x45 ∧ (encode (.setAlarm a mode)).sel = 0x47 ∧
    IsSet (.setTime t mode century) s 0x03
      (timeGroupBytes t (mode.getD s.cfg.hourMode) (century.getD s.cfg.century)) ∧
    IsSet (.setAlarm a mode) s 0x0A (alarmBytes a (mode.getD s.cfg.hourMode))

/-- R221, R223, R224, R225, R226, R227, R228. -/
def Obligations.SetOffsetAndTimerResults : Prop :=
  ∀ (o : OffsetIn) (t : TimerBlockIn) (c : TimerControlIn) (fa : TimerAFreqIn) (fb : TimerBFreqIn)
    (v : TimerValueIn) (s : State),
    (encode (.setOffset o)).sel = 0x49 ∧ (encode (.setTimer t)).sel = 0x4B ∧
    (encode (.setTimerControl c)).sel = 0x4C ∧ (encode (.setTimerAFreq fa)).sel = 0x4D ∧
    (encode (.setTimerAValue v)).sel = 0x4E ∧ (encode (.setTimerBFreq fb)).sel = 0x4F ∧
    (encode (.setTimerBValue v)).sel = 0x50 ∧
    IsSet (.setOffset o) s 0x0E (offsetBytes o) ∧
    IsSet (.setTimer t) s 0x0F (timerBlockBytes t) ∧
    IsSet (.setTimerControl c) s 0x0F (.ok [timerControlByte c]) ∧
    IsSet (.setTimerAFreq fa) s 0x10 (.ok [timerAFreqByte fa]) ∧
    IsSet (.setTimerAValue v) s 0x11 (timerValueBytes v) ∧
    IsSet (.setTimerBFreq fb) s 0x12 (.ok [timerBFreqByte fb]) ∧
    IsSet (.setTimerBValue v) s 0x13 (timerValueBytes v)

/-- R229, and 70_reset_and_hazards.md R263: one write of 0x58 to Control1, the configuration untouched; under `REF_BUS`
the only effect on the image is that byte. -/
def Obligations.SoftResetResult : Prop :=
  ∀ s : State, (encode .softReset).sel = 0x51 ∧ IsSet .softReset s 0x00 (.ok [0x58]) ∧
    (s.bus = .reference → s.img.wf = true →
      ∃ s', exec .softReset s = .next s' ∧ s'.cfg = s.cfg ∧ s'.img.readByte 0x00 = 0x58 ∧
        ∀ a, a ≠ 0x00 → s'.img.readByte a = s.img.readByte a)

/-! ## The bus and the whole block -/

/-- 20_memory.md R64: the oracle may answer a transaction with anything, and touches no image; `REF_BUS` is a plain store
over its image, byte `buf[i]` at address `a + i` (R62), that never fails. 95_test_vectors.md 2.8: `BUS_SHORT` brings one
byte less than `REF_BUS` and stores as it does; `BUS_FAIL` rejects everything. The model's choices: the answers an oracle
has scheduled, the absent message of `BUS_FAIL` and the image beyond 0x13 (log 3), and the draw taken from the list of
transactions issued so far (log 2). -/
def Obligations.BusAnswers : Prop :=
  (∀ (s : State) (t : Transaction) (reply : Option BusReply) (rest : List (Option BusReply)),
    s.bus = .oracle (reply :: rest) → busAnswer s t = (reply, .oracle rest, s.img)) ∧
  (∀ (s : State) (t : Transaction), s.bus = .oracle [] →
    busAnswer s t = (some (Config.busReply (s.busLog ++ [t])), .oracle [], s.img)) ∧
  (∀ (s : State) (a : Byte) (n : Nat), s.bus = .reference → a.toNat + n ≤ 256 →
    ∃ buf, busAnswer s (.read a n) = (some (.ok buf), .reference, s.img) ∧ buf.length = n ∧
      ∀ k < n, buf[k]? = some (s.img.readByte (a.toNat + k))) ∧
  (∀ (s : State) (a : Byte) (n : Nat), s.bus = .short → a.toNat + n ≤ 256 →
    ∃ buf, busAnswer s (.read a n) = (some (.ok buf), .short, s.img) ∧ buf.length = n - 1 ∧
      ∀ k < n - 1, buf[k]? = some (s.img.readByte (a.toNat + k))) ∧
  (∀ (s : State) (a : Byte) (v : Buf), s.bus = .reference ∨ s.bus = .short → s.img.wf = true →
    a.toNat + v.length ≤ 256 →
    ∃ reply img, busAnswer s (.write a v) = (some (.ok reply), s.bus, img) ∧ img.wf = true ∧
      (∀ k < v.length, v[k]? = some (img.readByte (a.toNat + k))) ∧
      ∀ j, j < a.toNat ∨ a.toNat + v.length ≤ j → img.readByte j = s.img.readByte j) ∧
  ∀ (s : State) (t : Transaction), s.bus = .fail → busAnswer s t = (some (.error none), .fail, s.img)

/-- 20_memory.md R61: a Codec operation (selectors 0x01-0x3C) answers a value or an error that its operands alone
determine, in every state, and touches no bus; an operation that issues a transaction is a marshalling operation. -/
def Obligations.CodecOperationsArePure : Prop :=
  (∀ i : Instr, (encode i).sel.toNat ≤ 0x3C → ∃ r, ∀ s, exec i s = .next (answered s r)) ∧
  ∀ (i : Instr) (s s' : State), exec i s = .next s' → s'.busLog ≠ s.busLog → 0x40 ≤ (encode i).sel.toNat

/-- 45_marshalling.md R230: the complete list of transactions. An operation issues at most one, it is the one its row
lists (a GET always issues it), the soft reset's is the byte 0x58, and no step of the machine issues any other. -/
def Obligations.TransactionTable : Prop :=
  (∀ (i : Instr) (s s' : State), exec i s = .next s' →
    ∃ l, s'.busLog = s.busLog ++ l ∧ l.length ≤ 1 ∧
      (∀ t ∈ l, ∃ r, row i = some r ∧ ofRow r t) ∧
      (∀ r, row i = some r → r.isWrite = false → l.length = 1) ∧
      (i = .softReset → l = [.write 0x00 [0x58]])) ∧
  ∀ s s' : State, step s = .next s' →
    ∃ l, s'.busLog = s.busLog ++ l ∧ l.length ≤ 1 ∧ ∀ t ∈ l, ∃ i r, row i = some r ∧ ofRow r t

/-- Every store stays in its row: an operation that has a next state leaves every byte of the image outside the registers
its row of R230 writes as it was (all of it, for an operation with no write row). -/
def Obligations.StoresOnlyItsRegisters : Prop :=
  ∀ (i : Instr) (s s' : State), exec i s = .next s' →
    ∀ a, (∀ r, row i = some r → r.isWrite = true → a < r.addr ∨ r.addr + r.len ≤ a) →
      s'.img.readByte a = s.img.readByte a

/-- 45_marshalling.md R231: no read-modify-write. What an operation sends depends only on its operands and the
configuration, and a SET sends no read. -/
def Obligations.NoReadModifyWrite : Prop :=
  ∀ (i : Instr) (s₁ s₂ s₁' s₂' : State) (l₁ l₂ : List Transaction), s₁.cfg = s₂.cfg →
    exec i s₁ = .next s₁' → exec i s₂ = .next s₂' → s₁'.busLog = s₁.busLog ++ l₁ → s₂'.busLog = s₂.busLog ++ l₂ →
    l₁ = l₂ ∧ ((∃ r, row i = some r ∧ r.isWrite = true) → ∀ t ∈ l₁, isWrite t)

/-- 45_marshalling.md R234, 10_state.md R48: an operation's response depends on its operands, the configuration and what
the bus answers, and on nothing of the operations before. -/
def Obligations.ResponsesIgnoreHistory : Prop :=
  ∀ (i : Instr) (s₁ s₂ s₁' s₂' : State), s₁.cfg = s₂.cfg →
    (∀ t, (busAnswer s₁ t).1 = (busAnswer s₂ t).1) → exec i s₁ = .next s₁' → exec i s₂ = .next s₂' →
    ∃ r, responded s₁ s₁' r ∧ responded s₂ s₂' r

/-- 60_exceptions.md R242: an operation that does not complete ends in one error; it leaves the trace and the program
index as they were, and, unless it is a `BusError` or comes from a GET, the bus and the image untouched. -/
def Obligations.ErrorsArePrecise : Prop :=
  ∀ (i : Instr) (s s' : State), exec i s = .next s' → s'.pc = s.pc →
    ∃ e, s'.status = .faulted e ∧ s'.trace = s.trace ∧ s'.cfg = s.cfg ∧ s'.prog = s.prog ∧
      s'.unimplemented = s.unimplemented ∧
      (e.kind ≠ .busError → (∀ r, row i = some r → r.isWrite = true) →
        s'.busLog = s.busLog ∧ s'.img = s.img ∧ s'.bus = s.bus)

/-- 45_marshalling.md R233: a bus that never answers leaves the marshalling operation pending for ever; that the model
stops there with a fault is its choice (log 9). Every GET, and every SET whose encode succeeds, stops so; an operation
stops in no other state and in no other way; and a step stops otherwise only on a record that is not its selector's
(the model's choice, log 8). -/
def Obligations.UnansweredBusStops : Prop :=
  (∀ (s : State) (rest : List (Option BusReply)), s.bus = .oracle (none :: rest) →
    (∀ (i : Instr) (r : Row), row i = some r → r.isWrite = false → exec i s = .fault .busNeverAnswers) ∧
    ∀ (i : Instr) (v : Buf), sent s.cfg i = some (.ok v) → exec i s = .fault .busNeverAnswers) ∧
  (∀ (i : Instr) (s : State), (∃ s', exec i s = .next s') ∨
    (exec i s = .fault .busNeverAnswers ∧ (∃ r, row i = some r) ∧ ∃ rest, s.bus = .oracle (none :: rest))) ∧
  ∀ s : State, (∃ s', step s = .next s') ∨
    (step s = .fault .busNeverAnswers ∧ ∃ rest, s.bus = .oracle (none :: rest)) ∨
    ∃ r, s.prog[s.pc]? = some r ∧ recordMatches r.sel r.ops = false ∧ step s = .refused (.operandMismatch r.sel)

/-- 45_marshalling.md R236: a step of a run that is going on performs one request, advancing the program index by one
or halting at it with an error; past the last request the run is done. A run that has ended stays as it is, which is the
model's choice (log 7). -/
def Obligations.StepAdvancesOrEnds : Prop :=
  (∀ s s' : State, s.status = .running → step s = .next s' →
    if s.pc < s.prog.length then
      (∃ v, s'.trace = s.trace ++ [v] ∧ s'.pc = s.pc + 1 ∧ s'.status = .running) ∨
        ∃ e, s'.status = .faulted e ∧ s'.trace = s.trace ∧ s'.pc = s.pc
    else s' = { s with status := .done }) ∧
  ∀ s : State, s.status ≠ .running → step s = .next s

/-- 45_marshalling.md R236: a run of well-formed requests on a bus that answers ends. From any point of it, as many steps
as there are requests left, and one more, reach `Done` with one result per request, or `Faulted` at the first request
that fails with the results of those before it; the configuration is the same throughout. The number of steps is the
same in both cases because a run that has ended stays as it is, which is the model's choice (log 7). -/
def Obligations.RunsEnd : Prop :=
  ∀ s : State, s.status = .running → s.pc ≤ s.prog.length → s.trace.length = s.pc →
    programWellFormed s.prog = true → (∀ l, s.bus = .oracle l → none ∉ l) →
    ∃ t : State, Host.Core.run Sys2Proof.core (s.prog.length - s.pc + 1) s = .next t ∧
      t.cfg = s.cfg ∧ t.prog = s.prog ∧ s.trace <+: t.trace ∧ t.trace.length = t.pc ∧
      ((t.status = .done ∧ t.pc = s.prog.length) ∨ ∃ e, t.status = .faulted e ∧ t.pc < s.prog.length)

/-- 60_exceptions.md R240, R241: the code of each of the seven kinds; an error's code is one its operation can raise by
the cause table; dispatch alone raises codes 7 and 5, with the selector. That the code is computed from the kind and not
stored beside it is the model's choice (log 7). -/
def Obligations.ErrorCodes : Prop :=
  [errorCode .lengthError, errorCode .rangeError, errorCode .missingRequiredFieldError, errorCode .unknownEnumError,
    errorCode .notImplementedError, errorCode .busError, errorCode .illegalOperation] = [1, 2, 3, 4, 5, 6, 7] ∧
  (∀ (i : Instr) (s s' : State) (e : BlockError), exec i s = .next s' → s'.pc = s.pc → s'.status = .faulted e →
    (encode i).sel.toNat ∈ raisedBy (errorCode e.kind)) ∧
  ∀ (s : State) (r : Request), s.status = .running → s.prog[s.pc]? = some r →
    (illegalSel r.sel.toNat → ∃ s' e, step s = .next s' ∧ s'.status = .faulted e ∧ e.info.sel = some r.sel ∧
      errorCode e.kind = 7) ∧
    (¬ illegalSel r.sel.toNat → r.sel ∈ s.unimplemented → ∃ s' e, step s = .next s' ∧ s'.status = .faulted e ∧
      e.info.sel = some r.sel ∧ errorCode e.kind = 5)
end

