-- ==== Sys2Proof/Laws/State.lean ====
section
/-! SUPPORT. One lemma per field per update of State, so that no proof unfolds a record update. -/

namespace Sys2Proof.Machine

variable (s : State) (v : Value) (e : BlockError) (p : List Request)

@[simp] theorem complete_cfg : (s.complete v).cfg = s.cfg := rfl
@[simp] theorem complete_unimplemented : (s.complete v).unimplemented = s.unimplemented := rfl
@[simp] theorem complete_bus : (s.complete v).bus = s.bus := rfl
@[simp] theorem complete_img : (s.complete v).img = s.img := rfl
@[simp] theorem complete_prog : (s.complete v).prog = s.prog := rfl
@[simp] theorem complete_pc : (s.complete v).pc = s.pc + 1 := rfl
@[simp] theorem complete_trace : (s.complete v).trace = s.trace ++ [v] := rfl
@[simp] theorem complete_status : (s.complete v).status = s.status := rfl
@[simp] theorem complete_busLog : (s.complete v).busLog = s.busLog := rfl

@[simp] theorem raise_cfg : (s.raise e).cfg = s.cfg := rfl
@[simp] theorem raise_unimplemented : (s.raise e).unimplemented = s.unimplemented := rfl
@[simp] theorem raise_bus : (s.raise e).bus = s.bus := rfl
@[simp] theorem raise_img : (s.raise e).img = s.img := rfl
@[simp] theorem raise_prog : (s.raise e).prog = s.prog := rfl
@[simp] theorem raise_pc : (s.raise e).pc = s.pc := rfl
@[simp] theorem raise_trace : (s.raise e).trace = s.trace := rfl
@[simp] theorem raise_status : (s.raise e).status = .faulted e := rfl
@[simp] theorem raise_busLog : (s.raise e).busLog = s.busLog := rfl

@[simp] theorem finish_cfg : s.finish.cfg = s.cfg := rfl
@[simp] theorem finish_unimplemented : s.finish.unimplemented = s.unimplemented := rfl
@[simp] theorem finish_bus : s.finish.bus = s.bus := rfl
@[simp] theorem finish_img : s.finish.img = s.img := rfl
@[simp] theorem finish_prog : s.finish.prog = s.prog := rfl
@[simp] theorem finish_pc : s.finish.pc = s.pc := rfl
@[simp] theorem finish_trace : s.finish.trace = s.trace := rfl
@[simp] theorem finish_status : s.finish.status = .done := rfl
@[simp] theorem finish_busLog : s.finish.busLog = s.busLog := rfl

@[simp] theorem loadProgram_cfg : (s.loadProgram p).cfg = s.cfg := rfl
@[simp] theorem loadProgram_unimplemented : (s.loadProgram p).unimplemented = s.unimplemented := rfl
@[simp] theorem loadProgram_bus : (s.loadProgram p).bus = s.bus := rfl
@[simp] theorem loadProgram_img : (s.loadProgram p).img = s.img := rfl
@[simp] theorem loadProgram_prog : (s.loadProgram p).prog = p := rfl
@[simp] theorem loadProgram_pc : (s.loadProgram p).pc = 0 := rfl
@[simp] theorem loadProgram_trace : (s.loadProgram p).trace = [] := rfl
@[simp] theorem loadProgram_status : (s.loadProgram p).status = .running := rfl
@[simp] theorem loadProgram_busLog : (s.loadProgram p).busLog = s.busLog := rfl

@[simp] theorem answer_ok : s.answer (.ok v) = s.complete v := rfl
@[simp] theorem answer_error : s.answer (.error e) = s.raise e := rfl

variable (r : Except BlockError Value)

@[simp] theorem answer_cfg : (s.answer r).cfg = s.cfg := by cases r <;> rfl
@[simp] theorem answer_unimplemented : (s.answer r).unimplemented = s.unimplemented := by cases r <;> rfl
@[simp] theorem answer_bus : (s.answer r).bus = s.bus := by cases r <;> rfl
@[simp] theorem answer_img : (s.answer r).img = s.img := by cases r <;> rfl
@[simp] theorem answer_prog : (s.answer r).prog = s.prog := by cases r <;> rfl
@[simp] theorem answer_busLog : (s.answer r).busLog = s.busLog := by cases r <;> rfl

variable (t : Transaction)

@[simp] theorem issue_cfg : (issue s t).2.cfg = s.cfg := rfl
@[simp] theorem issue_unimplemented : (issue s t).2.unimplemented = s.unimplemented := rfl
@[simp] theorem issue_prog : (issue s t).2.prog = s.prog := rfl
@[simp] theorem issue_pc : (issue s t).2.pc = s.pc := rfl
@[simp] theorem issue_trace : (issue s t).2.trace = s.trace := rfl
@[simp] theorem issue_status : (issue s t).2.status = s.status := rfl
@[simp] theorem issue_busLog : (issue s t).2.busLog = s.busLog ++ [t] := rfl
theorem issue_reply : (issue s t).1 = (busAnswer s t).1 := rfl
theorem issue_bus : (issue s t).2.bus = (busAnswer s t).2.1 := rfl
theorem issue_img : (issue s t).2.img = (busAnswer s t).2.2 := rfl

end Sys2Proof.Machine
end

