-- ==== Sys2Proof/Laws/Memory.lean ====
section
/-! SUPPORT. The image: a read after a write, and the canonical form kept by every memory operation. -/

namespace Sys2Proof.Machine

/-- A write gives its byte back at its own address. -/
theorem readByte_writeByte_same (m : Memory) (k : Nat) (v : Byte) (lo : Nat) (h : Memory.wfFrom lo m = true) :
    (m.writeByte k v).readByte k = v := by
  induction m generalizing lo with
  | nil => by_cases hv : v = unlistedByte <;> simp [Memory.writeByte, Memory.readByte, hv]
  | cons c rest ih =>
    obtain ⟨a, b⟩ := c
    simp only [Memory.wfFrom, Bool.and_eq_true, decide_eq_true_eq] at h
    obtain ⟨⟨⟨hlo, _⟩, _⟩, hrest⟩ := h
    have hgap : ∀ (m : Memory) (lo : Nat), Memory.wfFrom lo m = true → ∀ j, j < lo → m.readByte j = unlistedByte := by
      intro m
      induction m with
      | nil => intro _ _ _ _; rfl
      | cons c rest ih =>
        intro lo h j hj
        simp only [Memory.wfFrom, Bool.and_eq_true, decide_eq_true_eq] at h
        have hne : j ≠ c.1 := by omega
        simp only [Memory.readByte, hne, if_false]
        exact ih _ h.2 j (by omega)
    unfold Memory.writeByte
    split
    · split
      · rename_i hk hv
        have : k ≠ a := by omega
        simp only [Memory.readByte, this, if_false, hgap rest (a + 1) hrest k (by omega), hv]
      · simp [Memory.readByte]
    · split
      · split
        · rename_i hk hv
          rw [hgap rest (a + 1) hrest k (by omega), hv]
        · simp [Memory.readByte]
      · rename_i h1 h2
        simp only [Memory.readByte, h2, if_false]
        exact ih (a + 1) hrest

/-- A write leaves every other address alone. -/
theorem readByte_writeByte_other (m : Memory) (k j : Nat) (v : Byte) (hjk : j ≠ k) :
    (m.writeByte k v).readByte j = m.readByte j := by
  induction m with
  | nil => unfold Memory.writeByte; split <;> simp [Memory.readByte, hjk]
  | cons c rest ih =>
    obtain ⟨a, b⟩ := c
    unfold Memory.writeByte
    split
    · split
      · rfl
      · simp [Memory.readByte, hjk]
    · split
      · rename_i _ hka
        subst hka
        split <;> simp [Memory.readByte, hjk]
      · simp only [Memory.readByte]; split
        · rfl
        · exact ih

/-- A write keeps the canonical form. -/
theorem wfFrom_writeByte (m : Memory) (lo k : Nat) (v : Byte) (h : Memory.wfFrom lo m = true) (hk : lo ≤ k)
    (hk' : k < 256) : Memory.wfFrom lo (m.writeByte k v) = true := by
  induction m generalizing lo with
  | nil => unfold Memory.writeByte; split <;> simp_all [Memory.wfFrom]
  | cons c rest ih =>
    obtain ⟨a, b⟩ := c
    have h0 := h
    simp only [Memory.wfFrom, Bool.and_eq_true, decide_eq_true_eq] at h
    obtain ⟨⟨⟨hlo, ha⟩, hb⟩, hrest⟩ := h
    have hmono : ∀ (m : Memory) (p q : Nat), p ≤ q → Memory.wfFrom q m = true → Memory.wfFrom p m = true := by
      intro m p q hpq hq
      cases m with
      | nil => rfl
      | cons c rest =>
        simp only [Memory.wfFrom, Bool.and_eq_true, decide_eq_true_eq] at hq ⊢
        exact ⟨⟨⟨by omega, hq.1.1.2⟩, hq.1.2⟩, hq.2⟩
    unfold Memory.writeByte
    split
    · split
      · exact h0
      · rename_i hka hv
        simp only [Memory.wfFrom, Bool.and_eq_true, decide_eq_true_eq]
        exact ⟨⟨⟨hk, hk'⟩, hv⟩, ⟨⟨by omega, ha⟩, hb⟩, hrest⟩
    · split
      · rename_i _ hka
        split
        · exact hmono rest lo (a + 1) (by omega) hrest
        · rename_i hv
          simp only [Memory.wfFrom, Bool.and_eq_true, decide_eq_true_eq]
          exact ⟨⟨⟨hk, hk'⟩, hv⟩, hka ▸ hrest⟩
      · rename_i h1 h2
        simp only [Memory.wfFrom, Bool.and_eq_true, decide_eq_true_eq]
        exact ⟨⟨⟨hlo, ha⟩, hb⟩, ih (a + 1) hrest (by omega)⟩

/-- A byte write keeps the canonical form. -/
theorem wf_writeByte (m : Memory) (a : Byte) (v : Byte) (h : m.wf = true) : (m.writeByte a.toNat v).wf = true :=
  wfFrom_writeByte m 0 a.toNat v h (Nat.zero_le _) a.isLt

/-- A block write keeps the canonical form. -/
theorem wf_writeBlock (m : Memory) (a : Byte) (d : Buf) (h : m.wf = true) : (m.writeBlock a d).wf = true := by
  induction d generalizing m a with
  | nil => exact h
  | cons b rest ih => exact ih _ _ (wf_writeByte m a b h)

/-- A block read has the length asked for. -/
@[simp] theorem length_readBlock (m : Memory) (a : Byte) (n : Nat) : (m.readBlock a n).length = n := by
  induction n generalizing a with
  | zero => rfl
  | succ k ih => simp [Memory.readBlock, ih]

/-- A block write leaves every address outside the block alone (no wrap: R65, R230). -/
theorem readByte_writeBlock_outside (m : Memory) (a : Byte) (d : Buf) (j : Nat) (hfit : a.toNat + d.length ≤ 256)
    (hj : j < a.toNat ∨ a.toNat + d.length ≤ j) : (m.writeBlock a d).readByte j = m.readByte j := by
  induction d generalizing m a with
  | nil => rfl
  | cons b rest ih =>
    simp only [List.length_cons] at hfit hj
    simp only [Memory.writeBlock]
    cases rest with
    | nil => exact readByte_writeByte_other m _ j b (by simp at hj; omega)
    | cons c rest' =>
      have h1 : (a + 1).toNat = a.toNat + 1 := by
        simp only [List.length_cons] at hfit
        have h1' : (1 : Byte).toNat = 1 := rfl
        rw [BitVec.toNat_add, h1', Nat.mod_eq_of_lt (by omega)]
      rw [ih (m.writeByte a.toNat b) (a + 1) (by rw [h1]; omega) (by rw [h1]; omega)]
      exact readByte_writeByte_other m _ j b (by omega)

end Sys2Proof.Machine
end

