-- ==== Sys2Proof/Laws/Ops.lean ====
section
/-! SUPPORT. What each shared operation can do, said once: the bus port, the GET and SET patterns, dispatch, one
turn, and the two shapes of every operation's next state. -/

namespace Sys2Proof.Machine

/-! ## The bus -/

variable {s s' : State} {t : Transaction} {addr : Byte} {n : Nat} {data : Buf}

theorem busAnswer_free (h : s.bus = .oracle []) :
    busAnswer s t = (some (Config.busReply (s.busLog ++ [t])), .oracle [], s.img) := by
  simp [busAnswer, h]

theorem busAnswer_scheduled {r : Option BusReply} {rest : List (Option BusReply)} (h : s.bus = .oracle (r :: rest)) :
    busAnswer s t = (r, .oracle rest, s.img) := by
  simp [busAnswer, h]

theorem busAnswer_fail (h : s.bus = .fail) : busAnswer s t = (some (.error none), .fail, s.img) := by
  simp [busAnswer, h]

theorem busAnswer_reference_read (h : s.bus = .reference) :
    busAnswer s (.read addr n) = (some (.ok (s.img.readBlock addr n)), .reference, s.img) := by
  simp [busAnswer, h]

theorem busAnswer_reference_write (h : s.bus = .reference) :
    busAnswer s (.write addr data) = (some (.ok []), .reference, s.img.writeBlock addr data) := by
  simp [busAnswer, h]

theorem busAnswer_short_read (h : s.bus = .short) :
    busAnswer s (.read addr n) = (some (.ok (s.img.readBlock addr (n - 1))), .short, s.img) := by
  simp [busAnswer, h]

theorem busAnswer_short_write (h : s.bus = .short) :
    busAnswer s (.write addr data) = (some (.ok []), .short, s.img.writeBlock addr data) := by
  simp [busAnswer, h]

/-- Only an oracle whose next scheduled answer is missing leaves a transaction unanswered. -/
theorem busAnswer_none (h : (busAnswer s t).1 = none) : ∃ rest, s.bus = .oracle (none :: rest) := by
  unfold busAnswer at h
  split at h
  · cases h
  · rename_i r rest hb
    exact ⟨rest, by rw [hb, show r = none from h]⟩
  · cases h
  · split at h <;> cases h
  · split at h <;> cases h

/-- A transaction leaves the image alone, or is a write that stores its block. -/
theorem busAnswer_img (s : State) (t : Transaction) :
    (busAnswer s t).2.2 = s.img ∨ ∃ a d, t = .write a d ∧ (busAnswer s t).2.2 = s.img.writeBlock a d := by
  unfold busAnswer
  split <;> try exact .inl rfl
  all_goals split
  · exact .inl rfl
  · exact .inr ⟨_, _, rfl, rfl⟩
  · exact .inl rfl
  · exact .inr ⟨_, _, rfl, rfl⟩

/-- The image keeps its canonical form across every transaction. -/
theorem issue_img_wf (h : s.img.wf = true) : (issue s t).2.img.wf = true := by
  rw [issue_img]
  rcases busAnswer_img s t with h' | ⟨a, d, _, h'⟩ <;> rw [h']
  · exact h
  · exact wf_writeBlock _ _ _ h

/-! ## GET and SET -/

variable {dec : Buf → Except BlockError Value} {enc : Except BlockError Buf}

theorem respond_next {r : Except BlockError Value} : respond s r = .next s' ↔ s' = s.answer r := by
  simp [respond, eq_comm]

/-- A GET whose read is answered: the decode of the answer is the response. -/
theorem getGroup_answered {r : BusReply} (h : (busAnswer s (.read addr n)).1 = some r) :
    getGroup s addr n dec = .next ((issue s (.read addr n)).2.answer (readResult dec r)) := by
  simp [getGroup, issue_reply, h]

theorem getGroup_unanswered (h : (busAnswer s (.read addr n)).1 = none) :
    getGroup s addr n dec = .fault .busNeverAnswers := by
  simp [getGroup, issue_reply, h]

/-- Every next state of a GET. -/
theorem getGroup_next (h : getGroup s addr n dec = .next s') :
    ∃ r, (issue s (.read addr n)).1 = some r ∧ s' = (issue s (.read addr n)).2.answer (readResult dec r) := by
  unfold getGroup at h
  dsimp only at h
  split at h
  · cases h
  · rename_i r hr
    exact ⟨r, hr, by cases h; rfl⟩

/-- A write that is answered. -/
theorem putRange_answered {r : BusReply} (h : (busAnswer s (.write addr data)).1 = some r) :
    putRange s addr data = .next ((issue s (.write addr data)).2.answer (writeResult r)) := by
  simp [putRange, issue_reply, h]

theorem putRange_unanswered (h : (busAnswer s (.write addr data)).1 = none) :
    putRange s addr data = .fault .busNeverAnswers := by
  simp [putRange, issue_reply, h]

/-- Every next state of a write. -/
theorem putRange_next (h : putRange s addr data = .next s') :
    ∃ r, (issue s (.write addr data)).1 = some r ∧ s' = (issue s (.write addr data)).2.answer (writeResult r) := by
  unfold putRange at h
  dsimp only at h
  split at h
  · cases h
  · rename_i r hr
    exact ⟨r, hr, by cases h; rfl⟩

@[simp] theorem setRange_error {e : BlockError} : setRange s addr (.error e) = .next (s.raise e) := rfl

@[simp] theorem setRange_ok : setRange s addr (.ok data) = putRange s addr data := rfl

/-- Every next state of a SET: the encode's error with no transaction, or one answered write of the encoded bytes. -/
theorem setRange_next (h : setRange s addr enc = .next s') :
    (∃ e, enc = .error e ∧ s' = s.raise e) ∨
    ∃ d r, enc = .ok d ∧ (issue s (.write addr d)).1 = some r ∧ s' = (issue s (.write addr d)).2.answer (writeResult r) := by
  cases enc with
  | error e => exact .inl ⟨e, rfl, by cases h; rfl⟩
  | ok d =>
    obtain ⟨r, hr, hs⟩ := putRange_next h
    exact .inr ⟨d, r, rfl, hr, hs⟩

/-! ## The shape of every operation -/

/-- What a next state of `exec` is: the response alone, or one answered transaction and then the response. -/
def NextShape (s s' : State) : Prop :=
  (∃ r, s' = s.answer r) ∨ ∃ t reply r, (issue s t).1 = some reply ∧ s' = (issue s t).2.answer r

theorem nextShape_respond {r : Except BlockError Value} (h : respond s r = .next s') : NextShape s s' :=
  .inl ⟨r, respond_next.mp h⟩

theorem nextShape_getGroup (h : getGroup s addr n dec = .next s') : NextShape s s' := by
  obtain ⟨r, hr, hs⟩ := getGroup_next h
  exact .inr ⟨_, r, _, hr, hs⟩

theorem nextShape_putRange (h : putRange s addr data = .next s') : NextShape s s' := by
  obtain ⟨r, hr, hs⟩ := putRange_next h
  exact .inr ⟨_, r, _, hr, hs⟩

theorem nextShape_setRange (h : setRange s addr enc = .next s') : NextShape s s' := by
  rcases setRange_next h with ⟨e, _, hs⟩ | ⟨d, r, _, hr, hs⟩
  · exact .inl ⟨.error e, hs⟩
  · exact .inr ⟨_, r, _, hr, hs⟩

/-- Every operation's next state has that shape. -/
theorem exec_nextShape (i : Instr) (h : exec i s = .next s') : NextShape s s' := by
  cases i <;>
    first
      | exact nextShape_respond h
      | exact nextShape_setRange h
      | exact nextShape_getGroup h
      | exact nextShape_putRange h

/-- No operation refuses. -/
theorem exec_not_refused (i : Instr) (s : State) (r : Refusal) : exec i s ≠ .refused r := by
  have hr : ∀ x, respond s x ≠ .refused r := by
    intro x h; cases h
  have hg : ∀ addr n dec, getGroup s addr n dec ≠ .refused r := by
    intro addr n dec h; unfold getGroup at h; dsimp only at h; split at h <;> cases h
  have hp : ∀ addr data, putRange s addr data ≠ .refused r := by
    intro addr data h; unfold putRange at h; dsimp only at h; split at h <;> cases h
  have hs : ∀ addr enc, setRange s addr enc ≠ .refused r := by
    intro addr enc h
    cases enc with
    | error e => cases h
    | ok d => exact hp _ _ h
  cases i <;>
    first
      | exact hr _
      | exact hs _ _
      | exact hg _ _ _
      | exact hp _ _

/-! ## Dispatch and one turn -/

theorem dispatch_ok {u : List Byte} {r : Request} {i : Instr} (h : decode r = .ok i) :
    dispatch u r = if u.contains r.sel then .reject (notImplementedError r.sel) else .perform i := by
  simp [dispatch, h]

theorem dispatch_illegal {u : List Byte} {r : Request} {sel : Byte} (h : decode r = .illegalSelector sel) :
    dispatch u r = .reject (illegalOperation sel) := by
  simp [dispatch, h]

/-- Every next state of one request: a rejection, or the operation's. -/
theorem performRequest_next {r : Request} (h : performRequest s r = .next s') :
    (∃ e, s' = s.raise e) ∨ ∃ i, decode r = .ok i ∧ exec i s = .next s' := by
  unfold performRequest at h
  split at h
  · rename_i i hi
    refine .inr ⟨i, ?_, h⟩
    unfold dispatch at hi
    split at hi
    · cases hi
    · split at hi <;> cases hi
    · split at hi
      · cases hi
      · cases hi; assumption
  · rename_i e he
    exact .inl ⟨e, by cases h; rfl⟩
  · cases h

/-- Every next state of a step: an ended run stays; past the program's end the run is done; else the request's. -/
theorem step_next (h : step s = .next s') :
    (s.status ≠ .running ∧ s' = s) ∨
    (s.status = .running ∧ fetch s = none ∧ s' = s.finish) ∨
    (s.status = .running ∧ ∃ r, fetch s = some r ∧ performRequest s r = .next s') := by
  unfold step turn at h
  split at h
  · rename_i hr
    split at h
    · rename_i hf
      exact .inr (.inl ⟨hr, hf, by cases h; rfl⟩)
    · rename_i r hf
      exact .inr (.inr ⟨hr, r, hf, h⟩)
  · rename_i hd
    exact .inl ⟨by simp [hd], by cases h; rfl⟩
  · rename_i e hd
    exact .inl ⟨by simp [hd], by cases h; rfl⟩

/-- A running state whose next request decodes, and is in the build profile, performs the operation. -/
theorem step_decoded {r : Request} {i : Instr} (hr : s.status = .running) (hf : fetch s = some r)
    (hd : decode r = .ok i) (hu : s.unimplemented.contains r.sel = false) : step s = exec i s := by
  have hdis : dispatch s.unimplemented r = .perform i := by rw [dispatch_ok hd, hu]; rfl
  simp only [step, turn, hr, hf, performRequest, hdis]

end Sys2Proof.Machine
end

