-- ==== Sys2Proof/Laws/Codec.lean ====
section
/-! SUPPORT. The codec's building blocks as arithmetic: what the bit fields, the BCD fields and the pack lists of the
register formats come to on numbers, each said once. -/

namespace Sys2Proof.Machine

/-! ## Fields of a byte -/

/-- A field of a byte is a quotient and a remainder. -/
theorem ext_eq (b : Byte) (f : FieldDesc) :
    ext b f = ((b.toNat / 2 ^ (f.pos - f.w + 1).toNat % 2 ^ f.w.toNat : Nat) : Int) := by
  simp only [ext, fieldLo, fieldMask, Nat.shiftRight_eq_div_pow, Nat.and_two_pow_sub_one_eq_mod]

theorem bit_eq (b : Byte) (k : Nat) : bit b k = (b.toNat / 2 ^ k % 2 == 1) := by
  simp only [bit, BitVec.getLsbD, Nat.testBit_eq_decide_div_mod_eq]
  rcases Nat.mod_two_eq_zero_or_one (b.toNat / 2 ^ k) with h | h <;> simp [h]

theorem bcdValue_tens1 (b : Byte) :
    bcdValue b tens1 unitsField = 10 * (b.toNat / 2 ^ 4 % 2 ^ 1 : Nat) + (b.toNat / 2 ^ 0 % 2 ^ 4 : Nat) := by
  simp only [bcdValue, ext_eq]; rfl

theorem bcdValue_tens2 (b : Byte) :
    bcdValue b tens2 unitsField = 10 * (b.toNat / 2 ^ 4 % 2 ^ 2 : Nat) + (b.toNat / 2 ^ 0 % 2 ^ 4 : Nat) := by
  simp only [bcdValue, ext_eq]; rfl

theorem bcdValue_tens3 (b : Byte) :
    bcdValue b tens3 unitsField = 10 * (b.toNat / 2 ^ 4 % 2 ^ 3 : Nat) + (b.toNat / 2 ^ 0 % 2 ^ 4 : Nat) := by
  simp only [bcdValue, ext_eq]; rfl

theorem bcdValue_tens4 (b : Byte) :
    bcdValue b tens4 unitsField = 10 * (b.toNat / 2 ^ 4 % 2 ^ 4 : Nat) + (b.toNat / 2 ^ 0 % 2 ^ 4 : Nat) := by
  simp only [bcdValue, ext_eq]; rfl

/-! ## BCD bytes -/

/-- The BCD byte of a number of two digits. -/
def bcdByte (v : Int) : Byte := BitVec.ofNat 8 (v / 10 * 16 + v % 10).toNat

theorem bcdEncode_tens1 (v : Int) (h0 : 0 ≤ v) (h1 : v ≤ 19) : bcdEncode v tens1 unitsField = .ok (bcdByte v) := by
  have key : ∀ n : Fin 20, bcdEncode (n.val : Int) tens1 unitsField = .ok (bcdByte n.val) := by decide +kernel
  have := key ⟨v.toNat, by omega⟩
  simpa [Int.toNat_of_nonneg h0] using this

theorem bcdEncode_tens2 (v : Int) (h0 : 0 ≤ v) (h1 : v ≤ 39) : bcdEncode v tens2 unitsField = .ok (bcdByte v) := by
  have key : ∀ n : Fin 40, bcdEncode (n.val : Int) tens2 unitsField = .ok (bcdByte n.val) := by decide +kernel
  have := key ⟨v.toNat, by omega⟩
  simpa [Int.toNat_of_nonneg h0] using this

theorem bcdEncode_tens3 (v : Int) (h0 : 0 ≤ v) (h1 : v ≤ 79) : bcdEncode v tens3 unitsField = .ok (bcdByte v) := by
  have key : ∀ n : Fin 80, bcdEncode (n.val : Int) tens3 unitsField = .ok (bcdByte n.val) := by decide +kernel
  have := key ⟨v.toNat, by omega⟩
  simpa [Int.toNat_of_nonneg h0] using this

theorem bcdEncode_tens4 (v : Int) (h0 : 0 ≤ v) (h1 : v ≤ 99) : bcdEncode v tens4 unitsField = .ok (bcdByte v) := by
  have key : ∀ n : Fin 100, bcdEncode (n.val : Int) tens4 unitsField = .ok (bcdByte n.val) := by decide +kernel
  have := key ⟨v.toNat, by omega⟩
  simpa [Int.toNat_of_nonneg h0] using this

/-- A BCD byte below 80 leaves bit 7 clear, so that an enable bit can be joined to it. -/
theorem bcdByte_toNat (v : Int) (h0 : 0 ≤ v) (h1 : v ≤ 99) : (bcdByte v).toNat = (v / 10 * 16 + v % 10).toNat := by
  rw [bcdByte, BitVec.toNat_ofNat, Nat.mod_eq_of_lt (by omega)]

/-! ## Seven-bit two's complement and years -/

theorem tc7Encode_ok (v : Int) (h0 : -64 ≤ v) (h1 : v ≤ 63) : tc7Encode v = .ok (v % 128) := by
  have hin : ¬ (v < tc7Min ∨ tc7Max < v) := by show ¬ (v < -64 ∨ 63 < v); omega
  rw [tc7Encode, if_neg hin]
  split <;> exact congrArg _ (by omega)

theorem tc7Encode_error (v : Int) (h : v < -64 ∨ 63 < v) : tc7Encode v = .error (rangeError .offsetValue) :=
  if_pos h

theorem tc7Decode_ok (raw : Int) (h0 : 0 ≤ raw) (h1 : raw ≤ 127) :
    tc7Decode raw = .ok (if 64 ≤ raw then raw - 128 else raw) := by
  have key : ∀ n : Fin 128, tc7Decode (n.val : Int) =
      .ok (if (64 : Int) ≤ n.val then (n.val : Int) - 128 else n.val) := by decide +kernel
  have := key ⟨raw.toNat, by omega⟩
  have hr : ((raw.toNat : Nat) : Int) = raw := by omega
  simpa only [hr] using this

theorem tc7Decode_error (raw : Int) (h : raw < 0 ∨ 127 < raw) : tc7Decode raw = .error (rangeError .raw) :=
  if_pos h

theorem yearEncode_ok (y c : Int) (h0 : c ≤ y) (h1 : y ≤ c + 99) : yearEncode y c = .ok (y - c) := by
  simp only [yearEncode]
  rw [if_neg (by omega), if_neg (by omega)]

/-! ## Lengths -/

theorem needLength_ok {α : Type} {need : Nat} {buf : Buf} {v : α} (h : need ≤ buf.length) :
    needLength need buf v = .ok v := by
  simp [needLength, Nat.not_lt.mpr h]

theorem needLength_short {α : Type} {need : Nat} {buf : Buf} {v : α} (h : buf.length < need) :
    needLength need buf v = .error (lengthError need buf.length) := by
  simp [needLength, h]

/-! ## Pack lists: each register format packs without error, to a sum of powers of two -/

theorem bitsPack_control1 (cap : Int) (hc : cap = 0 ∨ cap = 1) (a b c d e : Bool) :
    bitsPack fmtControl1 [cap, boolInt a, boolInt b, boolInt c, boolInt d, boolInt e] =
      .ok (BitVec.ofInt 8 (128 * cap + 32 * boolInt a + 8 * boolInt b + 4 * boolInt c + 2 * boolInt d + boolInt e)) := by
  rcases hc with rfl | rfl <;> revert a b c d e <;> decide

theorem bitsPack_control2 (a b c d e f g : Bool) :
    bitsPack fmtControl2 [keep a, keep b, keep c, keep d, boolInt e, boolInt f, boolInt g] =
      .ok (BitVec.ofInt 8 (64 * keep a + 32 * keep b + 16 * keep c + 8 * keep d + 4 * boolInt e + 2 * boolInt f
        + boolInt g)) := by
  revert a b c d e f g; decide +kernel

theorem bitsPack_control3 (x y z a b c : Bool) :
    bitsPack fmtControl3 [powerMode x y z, keep a, 1, boolInt b, boolInt c] =
      .ok (BitVec.ofInt 8 (32 * powerMode x y z + 8 * keep a + 4 + 2 * boolInt b + boolInt c)) := by
  revert x y z a b c; decide +kernel

theorem bitsPack_timerControl (a b e : Bool) (c : Code3) (d : Code2) :
    bitsPack fmtTimerControl [boolInt a, boolInt b, (c.toNat : Int), (d.toNat : Int), boolInt e] =
      .ok (BitVec.ofInt 8 (128 * boolInt a + 64 * boolInt b + 8 * c.toNat + 2 * d.toNat + boolInt e)) := by
  revert a b e c d; decide +kernel

theorem bitsPack_timerBFreq (w c : Code3) :
    bitsPack fmtTimerBFreq [(w.toNat : Int), (c.toNat : Int)] = .ok (BitVec.ofInt 8 (16 * w.toNat + c.toNat)) := by
  revert w c; decide +kernel

end Sys2Proof.Machine
end

