-- ==== Sys2Proof/Laws/PerInstr.lean ====
section
/-! SUPPORT. Statements about every operation, made per constructor (LAWS.json): the request the encoder writes for an
operation is well formed (30_encoding.md R80, R82, R85). -/

namespace Sys2Proof.Laws.EncodedWellFormed

/-- The request the encoder writes for `i` has an assigned selector and that selector's record. -/
def Statement (i : Instr) : Prop := (encode i).wellFormed = true

theorem bitsExtract (b : Byte) (f : FieldDesc) : Statement (.bitsExtract b f) := rfl
theorem bitsPack (fields : List FieldDesc) (values : List Int) : Statement (.bitsPack fields values) := rfl
theorem bcdDecode (b : Byte) (tens units : FieldDesc) : Statement (.bcdDecode b tens units) := rfl
theorem bcdEncode (v : Int) (tens units : FieldDesc) : Statement (.bcdEncode v tens units) := rfl
theorem tc7Decode (raw : Int) : Statement (.tc7Decode raw) := rfl
theorem tc7Encode (v : Int) : Statement (.tc7Encode v) := rfl
theorem yearDecode (y2 century : Int) : Statement (.yearDecode y2 century) := rfl
theorem yearEncode (year4digit century : Int) : Statement (.yearEncode year4digit century) := rfl
theorem hourTo24 (hour : Int) (pm : Bool) : Statement (.hourTo24 hour pm) := rfl
theorem weekdayName (idx : Int) : Statement (.weekdayName idx) := rfl
theorem monthName (monthsValue : Int) : Statement (.monthName monthsValue) := rfl
theorem control1Decode (buf : Buf) : Statement (.control1Decode buf) := rfl
theorem control1Encode (c : Control1In) : Statement (.control1Encode c) := rfl
theorem control2Decode (buf : Buf) : Statement (.control2Decode buf) := rfl
theorem control2Encode (c : Control2In) : Statement (.control2Encode c) := rfl
theorem control3Decode (buf : Buf) : Statement (.control3Decode buf) := rfl
theorem control3Encode (c : Control3In) : Statement (.control3Encode c) := rfl
theorem profileDecode (buf : Buf) : Statement (.profileDecode buf) := rfl
theorem timeDecode (buf : Buf) (mode : HourMode) (century : Int) : Statement (.timeDecode buf mode century) := rfl
theorem timeEncode (t : TimeIn) (mode : HourMode) (century : Int) : Statement (.timeEncode t mode century) := rfl
theorem alarmMinuteDecode (buf : Buf) : Statement (.alarmMinuteDecode buf) := rfl
theorem alarmMinuteEncode (a : AlarmMinuteIn) : Statement (.alarmMinuteEncode a) := rfl
theorem alarmHourDecode (buf : Buf) (mode : HourMode) : Statement (.alarmHourDecode buf mode) := rfl
theorem alarmHourEncode (a : AlarmHourIn) (mode : HourMode) : Statement (.alarmHourEncode a mode) := rfl
theorem alarmDayDecode (buf : Buf) : Statement (.alarmDayDecode buf) := rfl
theorem alarmDayEncode (a : AlarmDayIn) : Statement (.alarmDayEncode a) := rfl
theorem alarmWeekdayDecode (buf : Buf) : Statement (.alarmWeekdayDecode buf) := rfl
theorem alarmWeekdayEncode (a : AlarmWeekdayIn) : Statement (.alarmWeekdayEncode a) := rfl
theorem alarmDecode (buf : Buf) (mode : HourMode) : Statement (.alarmDecode buf mode) := rfl
theorem alarmEncode (a : AlarmIn) (mode : HourMode) : Statement (.alarmEncode a mode) := rfl
theorem offsetDecode (buf : Buf) : Statement (.offsetDecode buf) := rfl
theorem offsetEncode (o : OffsetIn) : Statement (.offsetEncode o) := rfl
theorem timerControlDecode (buf : Buf) : Statement (.timerControlDecode buf) := rfl
theorem timerControlEncode (c : TimerControlIn) : Statement (.timerControlEncode c) := rfl
theorem timerAFreqDecode (buf : Buf) : Statement (.timerAFreqDecode buf) := rfl
theorem timerAFreqEncode (f : TimerAFreqIn) : Statement (.timerAFreqEncode f) := rfl
theorem timerBFreqDecode (buf : Buf) : Statement (.timerBFreqDecode buf) := rfl
theorem timerBFreqEncode (f : TimerBFreqIn) : Statement (.timerBFreqEncode f) := rfl
theorem timerValueDecode (buf : Buf) : Statement (.timerValueDecode buf) := rfl
theorem timerValueEncode (v : TimerValueIn) : Statement (.timerValueEncode v) := rfl
theorem timerBlockDecode (buf : Buf) : Statement (.timerBlockDecode buf) := rfl
theorem timerBlockEncode (t : TimerBlockIn) : Statement (.timerBlockEncode t) := rfl
theorem timerDuration (sourceClock ticks : Int) : Statement (.timerDuration sourceClock ticks) := rfl
theorem getProfile : Statement (.getProfile) := rfl
theorem setControl1 (c : Control1In) : Statement (.setControl1 c) := rfl
theorem setControl2 (c : Control2In) : Statement (.setControl2 c) := rfl
theorem setControl3 (c : Control3In) : Statement (.setControl3 c) := rfl
theorem getTime (mode : Option HourMode) (century : Option Int) : Statement (.getTime mode century) := rfl
theorem setTime (t : TimeIn) (mode : Option HourMode) (century : Option Int) : Statement (.setTime t mode century) := rfl
theorem getAlarm (mode : Option HourMode) : Statement (.getAlarm mode) := rfl
theorem setAlarm (a : AlarmIn) (mode : Option HourMode) : Statement (.setAlarm a mode) := rfl
theorem getOffset : Statement (.getOffset) := rfl
theorem setOffset (o : OffsetIn) : Statement (.setOffset o) := rfl
theorem getTimer : Statement (.getTimer) := rfl
theorem setTimer (t : TimerBlockIn) : Statement (.setTimer t) := rfl
theorem setTimerControl (c : TimerControlIn) : Statement (.setTimerControl c) := rfl
theorem setTimerAFreq (f : TimerAFreqIn) : Statement (.setTimerAFreq f) := rfl
theorem setTimerAValue (v : TimerValueIn) : Statement (.setTimerAValue v) := rfl
theorem setTimerBFreq (f : TimerBFreqIn) : Statement (.setTimerBFreq f) := rfl
theorem setTimerBValue (v : TimerValueIn) : Statement (.setTimerBValue v) := rfl
theorem softReset : Statement (.softReset) := rfl

end Sys2Proof.Laws.EncodedWellFormed
end

