-- ==== Sys2Proof/Laws/Run.lean ====
section
/-! SUPPORT. Runs of many steps (Host/Core.lean): one step more, and a run that has ended stays where it is. -/

namespace Sys2Proof.Machine

/-- A run that starts with an answered step goes on from its next state. -/
theorem run_next {s s' : State} (k : Nat) (h : step s = .next s') :
    Host.Core.run Sys2Proof.core (k + 1) s = Host.Core.run Sys2Proof.core k s' := by
  have h' : Sys2Proof.core.step s = .next s' := h
  simp only [Host.Core.run, h']

/-- A run that has ended stays as it is. -/
theorem step_ended {s : State} (h : s.status ≠ .running) : step s = .next s := by
  unfold step turn
  split
  · exact absurd ‹_› h
  · rfl
  · rfl

theorem run_ended {s : State} (h : s.status ≠ .running) (k : Nat) :
    Host.Core.run Sys2Proof.core k s = .next s := by
  induction k with
  | zero => rfl
  | succ k ih => rw [run_next k (step_ended h)]; exact ih

end Sys2Proof.Machine
end

