-- ==== Sys2Proof/Tests/Slice0.lean ====
section
/-! SUPPORT. Tests: ill-formed requests refused, every operation's request decoded, one step per operation on the
vectors of 95_test_vectors.md (named in each comment), and a witness for every statement that has hypotheses. Expected
values are the vectors', never the model's. -/

namespace Sys2Proof.Tests

open Sys2Proof.Machine

/-- A block with century 2000, 24-hour mode and a reference bus over image `img`, at the start of program `prog`. -/
def start (img : Memory) (prog : List Request) : State :=
  { State.construct 2000 .h24 .reference [] with img := img, prog := prog }

def s0 : State := start [] []

/-- What a next state shows: the results, the run's standing and the transactions. -/
def shown (o : StepOutcome) : Option (List Value × RunStatus × List Transaction) :=
  match o with
  | .next s => some (s.trace, s.status, s.busLog)
  | .fault _ => none
  | .refused _ => none

/-- The image after a next state. -/
def image (o : StepOutcome) : Option Memory :=
  match o with
  | .next s => some s.img
  | .fault _ => none
  | .refused _ => none

/-- `Ok(v)` with no transaction. -/
def ok (v : Value) : Option (List Value × RunStatus × List Transaction) := some ([v], .running, [])

/-- `Err(kind, field)` with no transaction. -/
def err (kind : ErrorKind) (field : FieldName) : Option (List Value × RunStatus × List Transaction) :=
  some ([], .faulted ⟨kind, ⟨some field, none, none, none, none⟩⟩, [])

def errText (field : FieldName) (text : String) : Option (List Value × RunStatus × List Transaction) :=
  some ([], .faulted ⟨.rangeError, ⟨some field, some text, none, none, none⟩⟩, [])

def short (need got : Nat) (log : List Transaction) : Option (List Value × RunStatus × List Transaction) :=
  some ([], .faulted ⟨.lengthError, ⟨some .buf, none, some need, some got, none⟩⟩, log)

/-- `Ok(v)` after one transaction. -/
def okBus (v : Value) (t : Transaction) : Option (List Value × RunStatus × List Transaction) :=
  some ([v], .running, [t])

/-! ## WellFormed: an ill-formed request for each check -/

theorem test_wf_accepts : Request.wellFormed ⟨0x09, .hourPm 11 true⟩ = true := by decide
theorem test_wf_refuses_unassigned_selector : Request.wellFormed ⟨0x0C, .idx 0⟩ = false := by decide
theorem test_wf_unassigned_is_not_assigned : selectorAssigned 0x52 = false := by decide
theorem test_wf_refuses_wrong_record : Request.wellFormed ⟨0x0A, .monthsValue 1⟩ = false := by decide
theorem test_wf_refuses_wrong_program : programWellFormed [⟨0x51, .empty⟩, ⟨0x40, .idx 0⟩] = false := by decide
theorem test_wf_accepts_illegal_selector_in_program : programWellFormed [⟨0xFF, .empty⟩] = true := by decide

/-! ## Decode: every operation's request, its selector written out bit by bit from 30_encoding.md R85 -/

theorem test_decode_primitives :
    decode ⟨0b00000001, .bitsExtract 0x31 ⟨5, 1⟩⟩ = .ok (.bitsExtract 0x31 ⟨5, 1⟩) ∧
    decode ⟨0b00000010, .bitsPack [⟨5, 1⟩] [1]⟩ = .ok (.bitsPack [⟨5, 1⟩] [1]) ∧
    decode ⟨0b00000011, .bcdDecode 0x12 ⟨6, 3⟩ ⟨3, 4⟩⟩ = .ok (.bcdDecode 0x12 ⟨6, 3⟩ ⟨3, 4⟩) ∧
    decode ⟨0b00000100, .bcdEncode 59 ⟨6, 3⟩ ⟨3, 4⟩⟩ = .ok (.bcdEncode 59 ⟨6, 3⟩ ⟨3, 4⟩) ∧
    decode ⟨0b00000101, .raw 0x56⟩ = .ok (.tc7Decode 0x56) ∧
    decode ⟨0b00000110, .v (-42)⟩ = .ok (.tc7Encode (-42)) ∧
    decode ⟨0b00000111, .yearDecode 5 2000⟩ = .ok (.yearDecode 5 2000) ∧
    decode ⟨0b00001000, .yearEncode 2005 2000⟩ = .ok (.yearEncode 2005 2000) ∧
    decode ⟨0b00001001, .hourPm 11 true⟩ = .ok (.hourTo24 11 true) ∧
    decode ⟨0b00001010, .idx 6⟩ = .ok (.weekdayName 6) ∧
    decode ⟨0b00001011, .monthsValue 12⟩ = .ok (.monthName 12) := by
  decide

theorem test_decode_control :
    decode ⟨0b00010000, .buf [0x88]⟩ = .ok (.control1Decode [0x88]) ∧
    decode ⟨0b00010001, .control1 ⟨.cap7pF, true, false, true, false, true⟩⟩ = .ok (.control1Encode ⟨.cap7pF, true, false, true, false, true⟩) ∧
    decode ⟨0b00010010, .buf [0x48]⟩ = .ok (.control2Decode [0x48]) ∧
    decode ⟨0b00010011, .control2 ⟨true, false, true, some true, none, some false, none⟩⟩ = .ok (.control2Encode ⟨true, false, true, true, false, false, false⟩) ∧
    decode ⟨0b00010100, .buf [0x20]⟩ = .ok (.control3Decode [0x20]) ∧
    decode ⟨0b00010101, .control3 ⟨true, true, false, false, true, none⟩⟩ = .ok (.control3Encode ⟨true, true, false, false, true, false⟩) ∧
    decode ⟨0b00010110, .buf [1, 2, 3]⟩ = .ok (.profileDecode [1, 2, 3]) := by
  decide

theorem test_decode_time_alarm :
    decode ⟨0b00100000, .bufModeCentury [1] .h12 1900⟩ = .ok (.timeDecode [1] .h12 1900) ∧
    decode ⟨0b00100001, .time ⟨30, 45, 11, some true, 24, 3, 12, 2025⟩ .h12 2000⟩ = .ok (.timeEncode ⟨30, 45, 11, some true, 24, 3, 12, 2025⟩ .h12 2000) ∧
    decode ⟨0b00100010, .buf [0x80]⟩ = .ok (.alarmMinuteDecode [0x80]) ∧
    decode ⟨0b00100011, .alarmMinute ⟨12, some true⟩⟩ = .ok (.alarmMinuteEncode ⟨12, true⟩) ∧
    decode ⟨0b00100100, .bufMode [0x31] .h12⟩ = .ok (.alarmHourDecode [0x31] .h12) ∧
    decode ⟨0b00100101, .alarmHour ⟨7, some true, none⟩ .h24⟩ = .ok (.alarmHourEncode ⟨7, some true, false⟩ .h24) ∧
    decode ⟨0b00100110, .buf [0xB1]⟩ = .ok (.alarmDayDecode [0xB1]) ∧
    decode ⟨0b00100111, .alarmDay ⟨31, none⟩⟩ = .ok (.alarmDayEncode ⟨31, false⟩) ∧
    decode ⟨0b00101000, .buf [0x86]⟩ = .ok (.alarmWeekdayDecode [0x86]) ∧
    decode ⟨0b00101001, .alarmWeekday ⟨6, some true⟩⟩ = .ok (.alarmWeekdayEncode ⟨6, true⟩) ∧
    decode ⟨0b00101010, .bufMode [1, 2] .h24⟩ = .ok (.alarmDecode [1, 2] .h24) ∧
    decode ⟨0b00101011, .alarm ⟨30, some true, 7, none, some true, 1, none, 0, none⟩ .h24⟩ = .ok (.alarmEncode ⟨30, true, 7, none, true, 1, false, 0, false⟩ .h24) := by
  decide

theorem test_decode_offset_timer :
    decode ⟨0b00110000, .buf [0x56]⟩ = .ok (.offsetDecode [0x56]) ∧
    decode ⟨0b00110001, .offset ⟨.everyMinute, -42⟩⟩ = .ok (.offsetEncode ⟨.everyMinute, -42⟩) ∧
    decode ⟨0b00110010, .buf [0x3A]⟩ = .ok (.timerControlDecode [0x3A]) ∧
    decode ⟨0b00110011, .timerControl ⟨false, false, 7, 1, true⟩⟩ = .ok (.timerControlEncode ⟨false, false, 7, 1, true⟩) ∧
    decode ⟨0b00110100, .buf [0x02]⟩ = .ok (.timerAFreqDecode [0x02]) ∧
    decode ⟨0b00110101, .timerAFreq ⟨2⟩⟩ = .ok (.timerAFreqEncode ⟨2⟩) ∧
    decode ⟨0b00110110, .buf [0x21]⟩ = .ok (.timerBFreqDecode [0x21]) ∧
    decode ⟨0b00110111, .timerBFreq ⟨7, 4⟩⟩ = .ok (.timerBFreqEncode ⟨7, 4⟩) ∧
    decode ⟨0b00111000, .buf [0xFF]⟩ = .ok (.timerValueDecode [0xFF]) ∧
    decode ⟨0b00111001, .timerValue ⟨10⟩⟩ = .ok (.timerValueEncode ⟨10⟩) ∧
    decode ⟨0b00111010, .buf [5]⟩ = .ok (.timerBlockDecode [5]) ∧
    decode ⟨0b00111011, .timerBlock ⟨⟨false, false, 7, 1, true⟩, ⟨2⟩, ⟨10⟩, ⟨2, 1⟩, ⟨5⟩⟩⟩ = .ok (.timerBlockEncode ⟨⟨false, false, 7, 1, true⟩, ⟨2⟩, ⟨10⟩, ⟨2, 1⟩, ⟨5⟩⟩) ∧
    decode ⟨0b00111100, .timerDuration 2 255⟩ = .ok (.timerDuration 2 255) := by
  decide

theorem test_decode_marshalling :
    decode ⟨0b01000000, .empty⟩ = .ok (.getProfile) ∧
    decode ⟨0b01000001, .control1 ⟨.cap7pF, true, false, true, false, true⟩⟩ = .ok (.setControl1 ⟨.cap7pF, true, false, true, false, true⟩) ∧
    decode ⟨0b01000010, .control2 ⟨true, false, true, some true, none, some false, none⟩⟩ = .ok (.setControl2 ⟨true, false, true, true, false, false, false⟩) ∧
    decode ⟨0b01000011, .control3 ⟨true, true, false, false, true, none⟩⟩ = .ok (.setControl3 ⟨true, true, false, false, true, false⟩) ∧
    decode ⟨0b01000100, .modeCenturyOpt none (some 1900)⟩ = .ok (.getTime none (some 1900)) ∧
    decode ⟨0b01000101, .timeOpt ⟨30, 45, 11, some true, 24, 3, 12, 2025⟩ (some .h12) none⟩ = .ok (.setTime ⟨30, 45, 11, some true, 24, 3, 12, 2025⟩ (some .h12) none) ∧
    decode ⟨0b01000110, .modeOpt (some .h12)⟩ = .ok (.getAlarm (some .h12)) ∧
    decode ⟨0b01000111, .alarmOpt ⟨30, some true, 7, none, some true, 1, none, 0, none⟩ none⟩ = .ok (.setAlarm ⟨30, true, 7, none, true, 1, false, 0, false⟩ none) ∧
    decode ⟨0b01001000, .empty⟩ = .ok (.getOffset) ∧
    decode ⟨0b01001001, .offset ⟨.everyTwoHours, -42⟩⟩ = .ok (.setOffset ⟨.everyTwoHours, -42⟩) ∧
    decode ⟨0b01001010, .empty⟩ = .ok (.getTimer) ∧
    decode ⟨0b01001011, .timerBlock ⟨⟨false, false, 7, 1, true⟩, ⟨2⟩, ⟨10⟩, ⟨2, 1⟩, ⟨5⟩⟩⟩ = .ok (.setTimer ⟨⟨false, false, 7, 1, true⟩, ⟨2⟩, ⟨10⟩, ⟨2, 1⟩, ⟨5⟩⟩) ∧
    decode ⟨0b01001100, .timerControl ⟨false, false, 7, 1, true⟩⟩ = .ok (.setTimerControl ⟨false, false, 7, 1, true⟩) ∧
    decode ⟨0b01001101, .timerAFreq ⟨2⟩⟩ = .ok (.setTimerAFreq ⟨2⟩) ∧
    decode ⟨0b01001110, .timerValue ⟨10⟩⟩ = .ok (.setTimerAValue ⟨10⟩) ∧
    decode ⟨0b01001111, .timerBFreq ⟨7, 4⟩⟩ = .ok (.setTimerBFreq ⟨7, 4⟩) ∧
    decode ⟨0b01010000, .timerValue ⟨255⟩⟩ = .ok (.setTimerBValue ⟨255⟩) ∧
    decode ⟨0b01010001, .empty⟩ = .ok (.softReset) := by
  decide

theorem test_decode_illegal : decode ⟨0b01010010, .empty⟩ = .illegalSelector 0x52 := by decide
theorem test_decode_wrong_record : decode ⟨0b00001010, .v 0⟩ = .operandMismatch 0x0A := by decide
theorem test_table_word : decodeTableWord 8 0b00100010 = some (.alarmMinuteDecode [0]) := by decide
theorem test_table_word_too_long : decodeTableWord 8 256 = none := by decide

/-! ## Primitives (95_test_vectors.md 2.1) -/

/-- P3. -/
theorem test_bits_extract_mid : shown (exec (.bitsExtract 0xA5 ⟨6, 3⟩) s0) = ok (.int 2) := by
  decide

/-- P5. -/
theorem test_bits_extract_below_zero : shown (exec (.bitsExtract 0xFF ⟨2, 4⟩) s0) = err .rangeError .f := by
  decide

/-- P8. -/
theorem test_bits_pack : shown (exec (.bitsPack [⟨5, 1⟩, ⟨4, 1⟩, ⟨3, 4⟩] [1, 1, 1]) s0) = ok (.byte 0x31) := by
  decide

/-- P11. -/
theorem test_bits_pack_overlap : shown (exec (.bitsPack [⟨6, 3⟩, ⟨4, 2⟩] [0, 0]) s0) = err .rangeError .fields := by
  decide

/-- P19. -/
theorem test_bcd_decode_ignores_bit7 : shown (exec (.bcdDecode 0xFF ⟨6, 3⟩ ⟨3, 4⟩) s0) = ok (.int 85) := by
  decide

/-- P21. -/
theorem test_bcd_decode_bad_tens : shown (exec (.bcdDecode 0x00 ⟨9, 1⟩ ⟨3, 4⟩) s0) = err .rangeError .tens := by
  decide

/-- P22. -/
theorem test_bcd_encode : shown (exec (.bcdEncode 59 ⟨6, 3⟩ ⟨3, 4⟩) s0) = ok (.byte 0x59) := by
  decide

/-- P25. -/
theorem test_bcd_encode_tens_do_not_fit : shown (exec (.bcdEncode 80 ⟨6, 3⟩ ⟨3, 4⟩) s0) = err .rangeError .v := by
  decide

/-- P36. -/
theorem test_tc7_decode_min : shown (exec (.tc7Decode 0x40) s0) = ok (.int (-64)) := by
  decide

/-- P39. -/
theorem test_tc7_decode_out : shown (exec (.tc7Decode 128) s0) = err .rangeError .raw := by
  decide

/-- P43. -/
theorem test_tc7_encode_negative : shown (exec (.tc7Encode (-42)) s0) = ok (.int 0x56) := by
  decide

/-- S4. -/
theorem test_tc7_encode_out : shown (exec (.tc7Encode 64) s0) = err .rangeError .offsetValue := by
  decide

/-- P51. -/
theorem test_year_decode : shown (exec (.yearDecode 0 (-100)) s0) = ok (.int (-100)) := by
  decide

/-- P46. -/
theorem test_year_encode_edge : shown (exec (.yearEncode 2099 2000) s0) = ok (.int 99) := by
  decide

/-- S9. -/
theorem test_year_encode_past : shown (exec (.yearEncode 200 100) s0) = errText .year4digit "year exceeds configured century span" := by
  decide

/-- P52. -/
theorem test_hour_to_24 : shown (exec (.hourTo24 11 true) s0) = ok (.int 23) := by
  decide

/-- P54. -/
theorem test_hour_to_24_noon : shown (exec (.hourTo24 12 true) s0) = ok (.int 24) := by
  decide

/-- P58. -/
theorem test_weekday_name : shown (exec (.weekdayName 6) s0) = ok (.weekdayName (some .saturday)) := by
  decide

/-- P59. -/
theorem test_weekday_name_seven : shown (exec (.weekdayName 7) s0) = ok (.weekdayName none) := by
  decide

/-- P63. -/
theorem test_month_name : shown (exec (.monthName 12) s0) = ok (.monthName (some .december)) := by
  decide

/-- P61. -/
theorem test_month_name_zero : shown (exec (.monthName 0) s0) = ok (.monthName none) := by
  decide

/-! ## Control registers (95_test_vectors.md 2.2) -/

/-- C6. -/
theorem test_control1_decode : shown (exec (.control1Decode [0x27]) s0) = ok (.control1 ⟨.cap7pF, true, false, true, true, true⟩) := by
  decide

/-- C7. -/
theorem test_control1_decode_short : shown (exec (.control1Decode []) s0) = short 1 0 [] := by
  decide

/-- C8. -/
theorem test_control1_encode : shown (exec (.control1Encode ⟨.cap12_5pF, true, true, true, true, true⟩) s0) = ok (.buf [0xAF]) := by
  decide

/-- C9b. -/
theorem test_control1_encode_other : shown (exec (.control1Encode ⟨.other 0, false, false, false, false, false⟩) s0) = err .unknownEnumError .capacitorSelection := by
  decide

/-- C13. -/
theorem test_control2_decode : shown (exec (.control2Decode [0x80]) s0) = ok (.control2 ⟨true, false, false, false, false, false, false, false⟩) := by
  decide

/-- C17. -/
theorem test_control2_encode : shown (exec (.control2Encode ⟨true, false, false, false, false, true, false⟩) s0) = ok (.buf [0x6C]) := by
  decide

/-- C15. -/
theorem test_control2_encode_all_clear : shown (exec (.control2Encode ⟨false, false, false, true, true, true, true⟩) s0) = ok (.buf [0x00]) := by
  decide

/-- C21c. -/
theorem test_control3_decode_direct : shown (exec (.control3Decode [0xA0]) s0) = ok (.control3 ⟨false, true, some true, false, false, false, false⟩) := by
  decide

/-- C21d. -/
theorem test_control3_decode_illegal_mode : shown (exec (.control3Decode [0xC0]) s0) = ok (.control3 ⟨false, false, none, false, false, false, false⟩) := by
  decide

/-- C34. -/
theorem test_control3_encode : shown (exec (.control3Encode ⟨true, true, false, true, true, true⟩) s0) = ok (.buf [0x07]) := by
  decide

/-- C32, S7. -/
theorem test_control3_encode_illegal_mode : shown (exec (.control3Encode ⟨false, false, false, false, false, false⟩) s0) = errText .powerMode "illegal power mode 110" := by
  decide

/-- C35. -/
theorem test_profile_decode : shown (exec (.profileDecode [0x58, 0x78, 0x0C]) s0) = ok (.profile ⟨⟨.cap7pF, false, true, false, false, false⟩,
      ⟨false, true, true, true, true, false, false, false⟩, ⟨true, true, some false, true, true, false, false⟩⟩) := by
  decide

/-- C37. -/
theorem test_profile_decode_short : shown (exec (.profileDecode [0x00, 0x00]) s0) = short 3 2 [] := by
  decide

/-! ## Time and alarm (95_test_vectors.md 2.3, 2.4) -/

/-- T2. -/
theorem test_time_decode_h12 : shown (exec (.timeDecode [0x30, 0x45, 0x31, 0x24, 0x03, 0x12, 0x25] .h12 2000) s0) = ok (.time ⟨true, 30, 45, 11, 23, some true, 24, 3, some .wednesday, 12, some .december, 2025⟩) := by
  decide

/-- T8. -/
theorem test_time_decode_corrupt : shown (exec (.timeDecode [0xFF, 0xFF, 0xFF, 0xFF, 0xFF, 0xFF, 0xFF] .h12 2000) s0) = ok (.time ⟨false, 85, 85, 25, 37, some true, 45, 7, none, 25, none, 2165⟩) := by
  decide

/-- T11. -/
theorem test_time_encode : shown (exec (.timeEncode ⟨30, 45, 11, some true, 24, 3, 12, 2025⟩ .h12 2000) s0) = ok (.buf [0x30, 0x45, 0x31, 0x24, 0x03, 0x12, 0x25]) := by
  decide

/-- T19d. -/
theorem test_time_encode_second_before_pm : shown (exec (.timeEncode ⟨60, 45, 11, none, 24, 3, 12, 2025⟩ .h12 2000) s0) = err .rangeError .second := by
  decide

/-- A3. -/
theorem test_alarm_minute_decode : shown (exec (.alarmMinuteDecode [0xD9]) s0) = ok (.alarmMinute ⟨59, false⟩) := by
  decide

/-- A7. -/
theorem test_alarm_minute_encode : shown (exec (.alarmMinuteEncode ⟨0, false⟩) s0) = ok (.buf [0x80]) := by
  decide

/-- A8. -/
theorem test_alarm_minute_encode_out : shown (exec (.alarmMinuteEncode ⟨60, false⟩) s0) = err .rangeError .minute := by
  decide

/-- A12. -/
theorem test_alarm_hour_decode_h12 : shown (exec (.alarmHourDecode [0x92] .h12) s0) = ok (.alarmHour ⟨12, false, some false, some 12⟩) := by
  decide

/-- A14. -/
theorem test_alarm_hour_decode_h24 : shown (exec (.alarmHourDecode [0xE3] .h24) s0) = ok (.alarmHour ⟨23, false, none, none⟩) := by
  decide

/-- A15. -/
theorem test_alarm_hour_encode : shown (exec (.alarmHourEncode ⟨11, some true, true⟩ .h12) s0) = ok (.buf [0x31]) := by
  decide

/-- A17. -/
theorem test_alarm_hour_encode_pm_first : shown (exec (.alarmHourEncode ⟨24, none, false⟩ .h12) s0) = err .missingRequiredFieldError .pm := by
  decide

/-- A26. -/
theorem test_alarm_day_decode : shown (exec (.alarmDayDecode [0xFF]) s0) = ok (.alarmDay ⟨45, false⟩) := by
  decide

/-- A28. -/
theorem test_alarm_day_encode : shown (exec (.alarmDayEncode ⟨1, false⟩) s0) = ok (.buf [0x81]) := by
  decide

/-- A30. -/
theorem test_alarm_day_encode_out : shown (exec (.alarmDayEncode ⟨32, false⟩) s0) = err .rangeError .day := by
  decide

/-- A33. -/
theorem test_alarm_weekday_decode : shown (exec (.alarmWeekdayDecode [0x7E]) s0) = ok (.alarmWeekday ⟨6, true⟩) := by
  decide

/-- A35. -/
theorem test_alarm_weekday_encode : shown (exec (.alarmWeekdayEncode ⟨6, false⟩) s0) = ok (.buf [0x86]) := by
  decide

/-- A36. -/
theorem test_alarm_weekday_encode_out : shown (exec (.alarmWeekdayEncode ⟨7, false⟩) s0) = err .rangeError .weekdayValue := by
  decide

/-- A40. -/
theorem test_alarm_decode : shown (exec (.alarmDecode [0x15, 0xB2, 0x45, 0x03] .h12) s0) = ok (.alarm ⟨15, true, 12, false, some true, some 24, 5, true, 3, true⟩) := by
  decide

/-- A43. -/
theorem test_alarm_encode : shown (exec (.alarmEncode ⟨15, true, 12, some true, true, 5, true, 3, true⟩ .h12) s0) = ok (.buf [0x15, 0x32, 0x05, 0x03]) := by
  decide

/-- A45. -/
theorem test_alarm_encode_hour_before_day : shown (exec (.alarmEncode ⟨0, false, 7, none, false, 0, false, 0, false⟩ .h12) s0) = err .missingRequiredFieldError .pm := by
  decide

/-! ## Offset and timers (95_test_vectors.md 2.5, 2.6, and the examples of 44_offset_timer.md) -/

/-- O2, S6. -/
theorem test_offset_decode : shown (exec (.offsetDecode [0xD6]) s0) = ok (.offset ⟨.everyMinute, -42, -170898 / 1000⟩) := by
  decide +kernel

/-- O5. -/
theorem test_offset_decode_min : shown (exec (.offsetDecode [0x40]) s0) = ok (.offset ⟨.everyTwoHours, -64, -27776 / 100⟩) := by
  decide +kernel

/-- O15. -/
theorem test_offset_encode : shown (exec (.offsetEncode ⟨.everyMinute, -42⟩) s0) = ok (.buf [0xD6]) := by
  decide

/-- S4. -/
theorem test_offset_encode_out : shown (exec (.offsetEncode ⟨.everyTwoHours, -65⟩) s0) = err .rangeError .offsetValue := by
  decide

/-- R183 example. -/
theorem test_timer_control_decode : shown (exec (.timerControlDecode [0x3A]) s0) = ok (.timerControl ⟨false, false, ⟨7, .clkDisabled⟩, ⟨1, .taCountdown⟩, false⟩) := by
  decide

/-- R186 example. -/
theorem test_timer_control_encode : shown (exec (.timerControlEncode ⟨false, false, 7, 1, true⟩) s0) = ok (.buf [0x3B]) := by
  decide

/-- R187 example. -/
theorem test_timer_a_freq_decode : shown (exec (.timerAFreqDecode [0x02]) s0) = ok (.timerAFreq ⟨⟨2, some .src1Hz⟩⟩) := by
  decide

/-- R190: code 7 is still encoded. -/
theorem test_timer_a_freq_encode : shown (exec (.timerAFreqEncode ⟨7⟩) s0) = ok (.buf [0x07]) := by
  decide

/-- R191 example. -/
theorem test_timer_b_freq_decode : shown (exec (.timerBFreqDecode [0x21]) s0) = ok (.timerBFreq ⟨⟨2, 78125 / 1000⟩, ⟨1, some .src64Hz⟩⟩) := by
  decide +kernel

/-- R192 example. -/
theorem test_timer_b_freq_encode : shown (exec (.timerBFreqEncode ⟨7, 4⟩) s0) = ok (.buf [0x74]) := by
  decide

/-- R193 example. -/
theorem test_timer_value_decode : shown (exec (.timerValueDecode [0xFF]) s0) = ok (.timerValue ⟨255⟩) := by
  decide

/-- R194. -/
theorem test_timer_value_encode : shown (exec (.timerValueEncode ⟨255⟩) s0) = ok (.buf [0xFF]) := by
  decide

/-- R194. -/
theorem test_timer_value_encode_out : shown (exec (.timerValueEncode ⟨256⟩) s0) = err .rangeError .value := by
  decide

/-- R195 example. -/
theorem test_timer_block_decode : shown (exec (.timerBlockDecode [0x3B, 0x02, 0x0A, 0x21, 0x05]) s0) = ok (.timerBlock ⟨⟨false, false, ⟨7, .clkDisabled⟩, ⟨1, .taCountdown⟩, true⟩, ⟨⟨2, some .src1Hz⟩⟩, ⟨10⟩,
      ⟨⟨2, 78125 / 1000⟩, ⟨1, some .src64Hz⟩⟩, ⟨5⟩⟩) := by
  decide +kernel

/-- R196 example. -/
theorem test_timer_block_encode : shown (exec (.timerBlockEncode ⟨⟨false, false, 7, 1, true⟩, ⟨2⟩, ⟨10⟩, ⟨2, 1⟩, ⟨5⟩⟩) s0) = ok (.buf [0x3B, 0x02, 0x0A, 0x21, 0x05]) := by
  decide

/-- S13. -/
theorem test_timer_duration : shown (exec (.timerDuration 2 255) s0) = ok (.duration ⟨255000000, 255000, 255, 425 / 100, 7 / 100, [.seconds]⟩) := by
  decide +kernel

/-- S16. -/
theorem test_timer_duration_truncates : shown (exec (.timerDuration 0 1) s0) = ok (.duration ⟨24414 / 100, 244 / 1000, 0, 0, 0, [.microseconds, .milliseconds]⟩) := by
  decide +kernel

/-! ## Marshalling (95_test_vectors.md 2.8, S17-S19, and the examples of 45_marshalling.md) -/

/-- A block whose bus answers the next transaction with a failure. -/
def failing : State := { s0 with bus := .fail }

/-- A block whose reads come one byte short. -/
def shortBus : State := { s0 with bus := .short }

def timeImage : Memory :=
  [(0x03, 0x30), (0x04, 0x45), (0x05, 0x31), (0x06, 0x24), (0x07, 0x03), (0x08, 0x12), (0x09, 0x25)]

def failed (t : Transaction) : Option (List Value × RunStatus × List Transaction) :=
  some ([], .faulted ⟨.busError, ⟨none, none, none, none, none⟩⟩, [t])

/-- S19. -/
theorem test_get_profile : shown (exec (.getProfile) (start [(0x00, 0x58), (0x01, 0x78), (0x02, 0x0C)] [])) = okBus (.profile ⟨⟨.cap7pF, false, true, false, false, false⟩,
      ⟨false, true, true, true, true, false, false, false⟩, ⟨true, true, some false, true, true, false, false⟩⟩)
      (.read 0x00 3) := by
  decide

/-- R212: `BusError` from the read. -/
theorem test_get_profile_bus_error : shown (exec (.getProfile) failing) = failed (.read 0x00 3) := by
  decide

/-- R213 with C9a. -/
theorem test_set_control1 : shown (exec (.setControl1 ⟨.cap7pF, true, false, false, false, false⟩) s0) = okBus .unit (.write 0x00 [0x20]) := by
  decide

/-- R213 example: no write. -/
theorem test_set_control1_other : shown (exec (.setControl1 ⟨.other 0, false, false, false, false, false⟩) s0) = err .unknownEnumError .capacitorSelection := by
  decide

/-- R214 example. -/
theorem test_set_control2 : shown (exec (.setControl2 ⟨false, false, false, false, false, false, false⟩) s0) = okBus .unit (.write 0x01 [0x78]) := by
  decide

/-- R215 with C26. -/
theorem test_set_control3 : shown (exec (.setControl3 ⟨true, true, false, false, false, false⟩) s0) = okBus .unit (.write 0x02 [0x0C]) := by
  decide

/-- R215 example: no write. -/
theorem test_set_control3_illegal : shown (exec (.setControl3 ⟨false, false, false, false, false, false⟩) s0) = errText .powerMode "illegal power mode 110" := by
  decide

/-- R216 with T2: the mode overridden, the century the configuration's. -/
theorem test_get_time_override : shown (exec (.getTime (some .h12) none) (start timeImage [])) = okBus (.time ⟨true, 30, 45, 11, 23, some true, 24, 3, some .wednesday, 12, some .december, 2025⟩)
      (.read 0x03 7) := by
  decide

/-- R210: a read that returns too few bytes. -/
theorem test_get_time_short : shown (exec (.getTime none none) shortBus) = short 7 6 [.read 0x03 7] := by
  decide

/-- R217 example. -/
theorem test_set_time : shown (exec (.setTime ⟨30, 45, 11, some true, 24, 3, 12, 2025⟩ (some .h12) none) s0) = okBus .unit (.write 0x03 [0x30, 0x45, 0x31, 0x24, 0x03, 0x12, 0x25]) := by
  decide

/-- T19g through R217: no write. -/
theorem test_set_time_out : shown (exec (.setTime ⟨30, 45, 24, none, 24, 3, 12, 2025⟩ none none) s0) = err .rangeError .hour := by
  decide

/-- R218 with A39. -/
theorem test_get_alarm : shown (exec (.getAlarm none) (start [(0x0A, 0x30), (0x0B, 0x07), (0x0C, 0x81), (0x0D, 0x80)] [])) = okBus (.alarm ⟨30, true, 7, true, none, none, 1, false, 0, false⟩) (.read 0x0A 4) := by
  decide

/-- R219 with A42. -/
theorem test_set_alarm : shown (exec (.setAlarm ⟨30, true, 7, none, true, 1, false, 0, false⟩ none) s0) = okBus .unit (.write 0x0A [0x30, 0x07, 0x81, 0x80]) := by
  decide

/-- R219: `BusError` from the write. -/
theorem test_set_alarm_bus_error : shown (exec (.setAlarm ⟨30, true, 7, none, true, 1, false, 0, false⟩ none) failing) = failed (.write 0x0A [0x30, 0x07, 0x81, 0x80]) := by
  decide

/-- R220 with O1. -/
theorem test_get_offset : shown (exec (.getOffset) (start [(0x0E, 0x56)] [])) = okBus (.offset ⟨.everyTwoHours, -42, -18228 / 100⟩) (.read 0x0E 1) := by
  decide +kernel

/-- R221 with O14. -/
theorem test_set_offset : shown (exec (.setOffset ⟨.everyTwoHours, -42⟩) s0) = okBus .unit (.write 0x0E [0x56]) := by
  decide

/-- R221: no write. -/
theorem test_set_offset_out : shown (exec (.setOffset ⟨.everyTwoHours, 64⟩) s0) = err .rangeError .offsetValue := by
  decide

/-- R222 with the example of R195. -/
theorem test_get_timer : shown (exec (.getTimer) (start [(0x0F, 0x3B), (0x10, 0x02), (0x11, 0x0A), (0x12, 0x21), (0x13, 0x05)] [])) = okBus (.timerBlock ⟨⟨false, false, ⟨7, .clkDisabled⟩, ⟨1, .taCountdown⟩, true⟩, ⟨⟨2, some .src1Hz⟩⟩,
      ⟨10⟩, ⟨⟨2, 78125 / 1000⟩, ⟨1, some .src64Hz⟩⟩, ⟨5⟩⟩) (.read 0x0F 5) := by
  decide +kernel

/-- R223 with the example of R196. -/
theorem test_set_timer : shown (exec (.setTimer ⟨⟨false, false, 7, 1, true⟩, ⟨2⟩, ⟨10⟩, ⟨2, 1⟩, ⟨5⟩⟩) s0) = okBus .unit (.write 0x0F [0x3B, 0x02, 0x0A, 0x21, 0x05]) := by
  decide

/-- R224. -/
theorem test_set_timer_control : shown (exec (.setTimerControl ⟨false, false, 7, 1, true⟩) s0) = okBus .unit (.write 0x0F [0x3B]) := by
  decide

/-- R225. -/
theorem test_set_timer_a_freq : shown (exec (.setTimerAFreq ⟨2⟩) s0) = okBus .unit (.write 0x10 [0x02]) := by
  decide

/-- R226. -/
theorem test_set_timer_a_value : shown (exec (.setTimerAValue ⟨10⟩) s0) = okBus .unit (.write 0x11 [0x0A]) := by
  decide

/-- R227. -/
theorem test_set_timer_b_freq : shown (exec (.setTimerBFreq ⟨7, 4⟩) s0) = okBus .unit (.write 0x12 [0x74]) := by
  decide

/-- R228. -/
theorem test_set_timer_b_value : shown (exec (.setTimerBValue ⟨255⟩) s0) = okBus .unit (.write 0x13 [0xFF]) := by
  decide

/-- R228: no write. -/
theorem test_set_timer_b_value_out : shown (exec (.setTimerBValue ⟨-1⟩) s0) = err .rangeError .value := by
  decide

/-- S17. -/
theorem test_soft_reset : shown (exec (.softReset) s0) = okBus .unit (.write 0x00 [0x58]) := by
  decide

/-- S17, 70_reset_and_hazards.md R263: under `REF_BUS` the image's byte 0x00 becomes 0x58. -/
theorem test_soft_reset_image : image (exec .softReset (start [(0x00, 0x01), (0x02, 0x0C)] [])) =
    some [(0x00, 0x58), (0x02, 0x0C)] := by
  decide

/-! ## Steps and dispatch (95_test_vectors.md 2.9) -/

/-- 30_encoding.md R86. -/
theorem test_step_illegal : shown (step (start [] [⟨0x00, .empty⟩])) =
    some ([], .faulted ⟨.illegalOperation, ⟨none, none, none, none, some 0x00⟩⟩, []) := by
  decide

/-- X8: SET_OFFSET in a profile that leaves it out. -/
theorem test_step_not_implemented :
    shown (step { start [] [⟨0x49, .offset ⟨.everyTwoHours, 0⟩⟩] with unimplemented := [0x49] }) =
      some ([], .faulted ⟨.notImplementedError, ⟨none, none, none, none, some 0x49⟩⟩, []) := by
  decide

/-- 45_marshalling.md R236: past the last request the run is done. -/
theorem test_step_done : shown (step s0) = some ([], .done, []) := by decide

/-- A table word placed where the next step fetches it runs. -/
theorem test_step_fetch_word : shown (step (s0.withFetchWord 8 0x09)) = ok (.int 0) := by decide

/-- Errors carry the codes of 60_exceptions.md R240. -/
theorem test_error_codes : [ErrorKind.lengthError, .rangeError, .missingRequiredFieldError, .unknownEnumError,
    .notImplementedError, .busError, .illegalOperation].map errorCode = [1, 2, 3, 4, 5, 6, 7] := by
  decide

/-! ## Witnesses: for every statement with hypotheses, a concrete state and operands that meet them, and one for each
clause at a boundary value -/

open Sys2Proof.Spec in
/-- `BcdRoundTrip`, at both ends of a 3-bit tens field. -/
theorem witness_bcdRoundTrip : ∀ v ∈ [(0 : Int), 79], isField ⟨6, 3⟩ ∧ isField ⟨3, 4⟩ ∧ ¬ meet ⟨6, 3⟩ ⟨3, 4⟩ ∧
    0 ≤ v ∧ v ≤ 99 ∧ v / 10 < 2 ^ (3 : Int).toNat ∧ v % 10 < 2 ^ (4 : Int).toNat := by
  decide

open Sys2Proof.Spec in
/-- `BitsPackResult`: each of its five cases has lists of its own, and `exec` answers as its case says. -/
theorem witness_bitsPack_lengths : ([⟨0, 1⟩] : List FieldDesc).length ≠ ([] : List Int).length ∧
    shown (exec (.bitsPack [⟨0, 1⟩] []) s0) = err .rangeError .values := by
  decide

open Sys2Proof.Spec in
theorem witness_bitsPack_descriptor : ¬ isField ⟨8, 1⟩ ∧ isField ⟨7, 8⟩ ∧ ¬ isField ⟨7, 9⟩ ∧
    shown (exec (.bitsPack [⟨8, 1⟩] [0]) s0) = err .rangeError .fields := by
  decide

open Sys2Proof.Spec in
theorem witness_bitsPack_overlap : isField ⟨6, 3⟩ ∧ isField ⟨4, 2⟩ ∧
    ¬ ([⟨6, 3⟩, ⟨4, 2⟩] : List FieldDesc).Pairwise (fun f g => ¬ meet f g) := by
  decide

open Sys2Proof.Spec in
theorem witness_bitsPack_misfit : misfits ⟨6, 3⟩ 8 ∧ ¬ misfits ⟨6, 3⟩ 7 ∧
    shown (exec (.bitsPack [⟨6, 3⟩] [8]) s0) = err .rangeError .values := by
  decide

open Sys2Proof.Spec in
theorem witness_bitsPack_packs : (∀ f ∈ ([⟨6, 3⟩, ⟨3, 4⟩] : List FieldDesc), isField f) ∧
    ([⟨6, 3⟩, ⟨3, 4⟩] : List FieldDesc).Pairwise (fun f g => ¬ meet f g) ∧
    (∀ p ∈ ([⟨6, 3⟩, ⟨3, 4⟩] : List FieldDesc).zip [(7 : Int), 15], ¬ misfits p.1 p.2) ∧
    shown (exec (.bitsPack [⟨6, 3⟩, ⟨3, 4⟩] [7, 15]) s0) = ok (.byte 0x7F) := by
  decide

/-- `Tc7Bijection`, at the ends of both ranges. -/
theorem witness_tc7 : shown (exec (.tc7Encode (-64)) s0) = ok (.int 64) ∧ shown (exec (.tc7Encode 63) s0) = ok (.int 63) ∧
    shown (exec (.tc7Decode 0) s0) = ok (.int 0) ∧ shown (exec (.tc7Decode 127) s0) = ok (.int (-1)) := by
  decide

/-- `YearResults`, its round trip at both ends of a century. -/
theorem witness_years : shown (exec (.yearDecode (2000 - 2000) 2000) s0) = ok (.int 2000) ∧
    shown (exec (.yearDecode (2099 - 2000) 2000) s0) = ok (.int 2099) := by
  decide

/-- `TwelveOClockIsNotRemapped`: hours bytes that read 12, with the PM bit clear and set. -/
theorem witness_twelve : Spec.digits 0x12 1 = 12 ∧ Spec.bitAt 0x12 5 = false ∧ Spec.digits 0x32 1 = 12 ∧
    Spec.bitAt 0x32 5 = true := by
  decide

/-- `TimeRoundTrip`, in both modes. -/
theorem witness_timeRoundTrip_h12 : exec (.timeEncode ⟨0, 59, 12, some true, 31, 6, 12, 2099⟩ .h12 2000) s0 =
    .next (Spec.answered s0 (.ok (.buf [0x00, 0x59, 0x32, 0x31, 0x06, 0x12, 0x99]))) := by
  rfl

theorem witness_timeRoundTrip_h24 : exec (.timeEncode ⟨59, 0, 23, none, 1, 0, 1, 2000⟩ .h24 2000) s0 =
    .next (Spec.answered s0 (.ok (.buf [0x59, 0x00, 0x23, 0x01, 0x00, 0x01, 0x00]))) := by
  rfl

/-- `AlarmRoundTrip`, in both modes. -/
theorem witness_alarmRoundTrip_h12 : exec (.alarmEncode ⟨59, true, 1, some false, false, 31, true, 6, false⟩ .h12) s0 =
    .next (Spec.answered s0 (.ok (.buf [0x59, 0x81, 0x31, 0x86]))) := by
  rfl

theorem witness_alarmRoundTrip_h24 : exec (.alarmEncode ⟨0, false, 0, none, true, 1, false, 0, true⟩ .h24) s0 =
    .next (Spec.answered s0 (.ok (.buf [0x80, 0x00, 0x81, 0x00]))) := by
  rfl

/-- `TimerConfigurationLaws`: a block whose values stand at both ends of their range. -/
theorem witness_timerLaws : shown (exec (.timerBlockEncode ⟨⟨true, false, 0, 3, true⟩, ⟨7⟩, ⟨0⟩, ⟨7, 0⟩, ⟨255⟩⟩) s0) =
    ok (.buf [0x87, 0x07, 0x00, 0x70, 0xFF]) := by
  decide

/-- `TimerDurationIntegerForm`: the clocks of R198, and ticks at both ends of their range. -/
theorem witness_durationIntegerForm : Spec.clockOf 0 = some (4096, 1, [.microseconds, .milliseconds]) ∧
    Spec.clockOf 6 = some (1, 3600, [.hours]) ∧ Spec.clockOf 7 = none ∧
    shown (exec (.timerDuration 6 0) s0) = ok (.duration ⟨0, 0, 0, 0, 0, [.hours]⟩) ∧
    shown (exec (.timerDuration 6 255) s0) =
      ok (.duration ⟨918000000000, 918000000, 918000, 15300, 255, [.hours]⟩) := by
  decide +kernel

/-- `IsGet` and `IsSet`: buses that answer a read and a write, with success and with failure. -/
theorem witness_busAnswers : busAnswer s0 (.read 0x00 3) = (some (.ok [0, 0, 0]), .reference, []) ∧
    busAnswer s0 (.write 0x0E [0x56]) = (some (.ok []), .reference, [(0x0E, 0x56)]) ∧
    busAnswer failing (.read 0x03 7) = (some (.error none), .fail, []) ∧
    busAnswer failing (.write 0x13 [0xFF]) = (some (.error none), .fail, []) := by
  decide

/-- The encodes of `IsSet`'s two clauses: one that fails and one that does not. -/
theorem witness_setClauses : Spec.offsetBytes ⟨.everyTwoHours, 63⟩ = .ok [0x3F] ∧
    Spec.offsetBytes ⟨.everyTwoHours, 64⟩ = .error (Spec.err .rangeError .offsetValue) ∧
    Spec.control1Bytes ⟨.other 0, false, false, false, false, false⟩ =
      .error (Spec.err .unknownEnumError .capacitorSelection) := by
  decide

/-- `SoftResetResult` and `BusAnswers`: reference buses with canonical images, free and scheduled oracles,
and the two buses of the vectors. -/
theorem witness_buses : s0.bus = .reference ∧ shortBus.bus = .short ∧ failing.bus = .fail ∧
    shortBus.img.wf = true ∧ busAnswer shortBus (.read 0x0E 1) = (some (.ok []), .short, []) ∧ s0.img.wf = true ∧ (start timeImage []).img.wf = true ∧
    ({ s0 with bus := .oracle [some (.ok [1])] } : State).bus = .oracle (some (.ok [1]) :: []) ∧
    State.reset.bus = .oracle [] := by
  exact ⟨rfl, rfl, rfl, rfl, rfl, rfl, rfl, rfl, rfl⟩

/-- A block whose bus never answers its next transaction (`UnansweredBusStops`). -/
def silent : State := { s0 with bus := .oracle [none] }

theorem witness_silent : silent.bus = .oracle (none :: []) ∧ Spec.row .getTimer = some ⟨false, 0x0F, 5⟩ ∧
    Spec.sent silent.cfg (.setTimerBValue ⟨255⟩) = some (.ok [0xFF]) ∧
    Spec.sent silent.cfg (.setOffset ⟨.everyMinute, -64⟩) = some (.ok [0xC0]) ∧
    shown (exec .getTimer silent) = none ∧ shown (exec (.setTimerBValue ⟨255⟩) silent) = none ∧
    shown (exec (.setTimerBValue ⟨256⟩) silent) = err .rangeError .value ∧
    shown (exec (.monthName 1) silent) = ok (.monthName (some .january)) := by
  refine ⟨rfl, rfl, rfl, ?_, ?_, ?_, ?_, ?_⟩ <;> decide

/-- A run of two requests: a write, then one with an illegal selector. -/
def twoRequests : State := start [] [⟨0x51, .empty⟩, ⟨0x52, .empty⟩]

/-- `StepKeepsInvariant`, `StepKeepsConfiguration`, `TransactionTable`, `StepAdvancesOrEnds`: a state with the invariant
and its next state. -/
theorem witness_step : twoRequests.Inv ∧ twoRequests.status = .running ∧
    step twoRequests =
      .next { twoRequests with img := [(0x00, 0x58)], pc := 1, trace := [.unit], busLog := [.write 0x00 [0x58]] } := by
  refine ⟨⟨rfl, ?_, rfl, rfl, rfl⟩, rfl, rfl⟩
  decide

/-- `StepAdvancesOrEnds`: past the last request, and a run that has ended. -/
theorem witness_step_ends : s0.prog.length = s0.pc ∧ step s0 = .next { s0 with status := .done } ∧
    ({ s0 with status := .done } : State).status ≠ .running := by
  refine ⟨rfl, rfl, ?_⟩
  decide

/-- `StepRunsDecodedRequest` and the third clause of `DispatchOrder`. -/
theorem witness_dispatch_performs : twoRequests.prog[twoRequests.pc]? = some ⟨0x51, .empty⟩ ∧
    decode ⟨0x51, .empty⟩ = .ok .softReset ∧ (0x51 : Byte) ∉ twoRequests.unimplemented ∧ ¬ Spec.illegalSel 0x51 := by
  refine ⟨rfl, rfl, ?_, ?_⟩
  · decide
  · unfold Spec.illegalSel; omega

/-- `IllegalSelectorsRaise` and the first clause of `DispatchOrder`, at both ends of the ranges. -/
theorem witness_dispatch_illegal : (start [] [⟨0xFF, .empty⟩]).prog[0]? = some ⟨0xFF, .empty⟩ ∧
    Spec.illegalSel 0x00 ∧ Spec.illegalSel 0x0C ∧ Spec.illegalSel 0x52 ∧ Spec.illegalSel 0xFF := by
  refine ⟨rfl, ?_, ?_, ?_, ?_⟩ <;> (unfold Spec.illegalSel; omega)

/-- `UnimplementedSelectorsRaise` and the second clause of `DispatchOrder`. -/
theorem witness_dispatch_unimplemented :
    ({ twoRequests with unimplemented := [0x51] } : State).prog[twoRequests.pc]? = some ⟨0x51, .empty⟩ ∧
    (0x51 : Byte) = (encode .softReset).sel ∧ (0x51 : Byte) ∈ [(0x51 : Byte)] := by
  refine ⟨rfl, rfl, ?_⟩
  decide

/-- `IllTypedRecordIsRefused`. -/
theorem witness_illTyped : (start [] [⟨0x51, .idx 0⟩]).prog[0]? = some ⟨0x51, .idx 0⟩ ∧
    recordMatches 0x51 (.idx 0) = false ∧ (0x51 : Byte) ∉ (start [] []).unimplemented ∧
    step (start [] [⟨0x51, .idx 0⟩]) = .refused (.operandMismatch 0x51) := by
  refine ⟨rfl, rfl, ?_, rfl⟩
  decide

/-- `DecodeAndEncodeAgree`, second clause: a request with an omitted default. -/
theorem witness_defaults : decode ⟨0x23, .alarmMinute ⟨0, none⟩⟩ = .ok (.alarmMinuteEncode ⟨0, false⟩) := by decide

/-- `CodecOperationsArePure`, `StoresOnlyItsRegisters`: a next state that has issued a transaction, and an address
outside its registers on either side. -/
theorem witness_stores : exec (.setOffset ⟨.everyTwoHours, -42⟩) s0 =
      .next { s0 with img := [(0x0E, 0x56)], pc := 1, trace := [.unit], busLog := [.write 0x0E [0x56]] } ∧
    Spec.row (.setOffset ⟨.everyTwoHours, -42⟩) = some ⟨true, 0x0E, 1⟩ ∧ (0x0D < 0x0E ∧ 0x0E + 1 ≤ 0x0F) := by
  refine ⟨rfl, rfl, ?_⟩
  decide

/-- `NoReadModifyWrite`, `ResponsesIgnoreHistory`: two states with different histories and images, one configuration and
the same answers to come. -/
def scheduled (log : List Transaction) (img : Memory) : State :=
  { start img [] with bus := .oracle [some (.ok [])], busLog := log }

theorem witness_twoStates : (scheduled [] []).cfg = (scheduled [.read 0x03 7] timeImage).cfg ∧
    (∀ t, (busAnswer (scheduled [] []) t).1 = (busAnswer (scheduled [.read 0x03 7] timeImage) t).1) ∧
    shown (exec .softReset (scheduled [] [])) = okBus .unit (.write 0x00 [0x58]) ∧
    shown (exec .softReset (scheduled [.read 0x03 7] timeImage)) =
      some ([.unit], .running, [.read 0x03 7, .write 0x00 [0x58]]) := by
  refine ⟨rfl, fun _ => rfl, ?_, ?_⟩ <;> decide

/-- `ErrorsArePrecise` and `ErrorCodes`: a next state that is an error, with and without a transaction (dispatch's are in
`witness_dispatch_illegal` and `witness_dispatch_unimplemented`). -/
theorem witness_errors : exec (.setOffset ⟨.everyTwoHours, 64⟩) s0 =
      .next { s0 with status := .faulted (Spec.err .rangeError .offsetValue) } ∧
    exec .softReset failing =
      .next { failing with status := .faulted (Spec.busFailed none), busLog := [.write 0x00 [0x58]] } := by
  exact ⟨rfl, rfl⟩

/-- `RunsEnd`: a run that meets its hypotheses, and reaches its error in the steps the statement allows. -/
theorem witness_run : twoRequests.pc ≤ twoRequests.prog.length ∧ twoRequests.trace.length = twoRequests.pc ∧
    programWellFormed twoRequests.prog = true ∧ (∀ l, twoRequests.bus = .oracle l → none ∉ l) := by
  refine ⟨by decide, rfl, by decide, fun l h => ?_⟩
  exact Bus.noConfusion h


end Sys2Proof.Tests
end

section
/-! What no step writes: the configuration (10_state.md R20), the build profile and the program. An operation takes a
response after at most one transaction, and neither touches these three fields. -/

namespace Sys2Proof.Proofs

open Sys2Proof.Machine

/-- `s'` has the configuration, the build profile and the program of `s`. -/
def SameSetup (s s' : State) : Prop :=
  s'.cfg = s.cfg ∧ s'.unimplemented = s.unimplemented ∧ s'.prog = s.prog

variable {s s' : State}

theorem sameSetup_refl (s : State) : SameSetup s s := ⟨rfl, rfl, rfl⟩

theorem sameSetup_finish (s : State) : SameSetup s s.finish :=
  ⟨finish_cfg s, finish_unimplemented s, finish_prog s⟩

theorem sameSetup_raise (s : State) (e : BlockError) : SameSetup s (s.raise e) :=
  ⟨raise_cfg s e, raise_unimplemented s e, raise_prog s e⟩

theorem sameSetup_answer (s : State) (r : Except BlockError Value) : SameSetup s (s.answer r) :=
  ⟨answer_cfg s r, answer_unimplemented s r, answer_prog s r⟩

/-- The answer to a transaction changes only the bus, the image and the traffic (20_memory.md R64). -/
theorem sameSetup_issue_answer (s : State) (t : Transaction) (r : Except BlockError Value) :
    SameSetup s ((issue s t).2.answer r) := by
  obtain ⟨hcfg, hprofile, hprog⟩ := sameSetup_answer (issue s t).2 r
  exact ⟨hcfg.trans (issue_cfg s t), hprofile.trans (issue_unimplemented s t), hprog.trans (issue_prog s t)⟩

theorem sameSetup_of_nextShape (h : NextShape s s') : SameSetup s s' := by
  rcases h with ⟨r, rfl⟩ | ⟨t, reply, r, -, rfl⟩
  · exact sameSetup_answer s r
  · exact sameSetup_issue_answer s t r

theorem exec_sameSetup {i : Instr} (h : exec i s = .next s') : SameSetup s s' :=
  sameSetup_of_nextShape (exec_nextShape i h)

theorem performRequest_sameSetup {r : Request} (h : performRequest s r = .next s') : SameSetup s s' := by
  rcases performRequest_next h with ⟨e, rfl⟩ | ⟨i, -, hexec⟩
  · exact sameSetup_raise s e
  · exact exec_sameSetup hexec

theorem step_sameSetup (h : step s = .next s') : SameSetup s s' := by
  rcases step_next h with ⟨-, rfl⟩ | ⟨-, -, rfl⟩ | ⟨-, r, -, hperform⟩
  · exact sameSetup_refl _
  · exact sameSetup_finish s
  · exact performRequest_sameSetup hperform

/-- Settles O4: a step ends, stays, or performs one request, and each of these keeps the three fields. -/
theorem stepKeepsConfiguration : Obligations.StepKeepsConfiguration := by
  unfold Obligations.StepKeepsConfiguration
  intro s s' h
  exact step_sameSetup h

end Sys2Proof.Proofs
end

section
/-! What the buses answer (20_memory.md R62, R64; 95_test_vectors.md 2.8). `REF_BUS` and `BUS_SHORT` read and store
blocks of the image, and byte `k` of a block that ends by address 0xFF is the image's byte at `a + k`. -/

namespace Sys2Proof.Proofs

open Sys2Proof.Machine

/-- Byte `k` of a block read is the image's byte at `a + k` (R62). -/
theorem getElem?_readBlock (m : Memory) {a : Byte} {n k : Nat} (hfit : a.toNat + n ≤ 256) (hk : k < n) :
    (m.readBlock a n)[k]? = some (m.readByte (a.toNat + k)) := by
  induction n generalizing a k with
  | zero => omega
  | succ n ih =>
    cases k with
    | zero => rfl
    | succ k =>
      have hnext : (a + 1).toNat = (a.toNat + 1) % 256 := BitVec.toNat_add a 1
      have htail := ih (a := a + 1) (by omega) (Nat.lt_of_succ_lt_succ hk)
      rw [show (a + 1).toNat + k = a.toNat + (k + 1) by omega] at htail
      exact htail

/-- A block write leaves byte `k` of the data at `a + k` (R62). The head's byte survives the rest of the write, which
starts one address further. -/
theorem getElem?_eq_readByte_writeBlock {m : Memory} {a : Byte} {d : Buf} {k : Nat} (hwf : m.wf = true)
    (hfit : a.toNat + d.length ≤ 256) (hk : k < d.length) :
    d[k]? = some ((m.writeBlock a d).readByte (a.toNat + k)) := by
  induction d generalizing m a k with
  | nil => cases hk
  | cons b rest ih =>
    rw [List.length_cons] at hfit hk
    have hnext : (a + 1).toNat = (a.toNat + 1) % 256 := BitVec.toNat_add a 1
    cases k with
    | zero =>
      have hrest : ((m.writeByte a.toNat b).writeBlock (a + 1) rest).readByte a.toNat =
          (m.writeByte a.toNat b).readByte a.toNat :=
        readByte_writeBlock_outside _ _ _ _ (by omega) (by omega)
      have hhead : (m.writeByte a.toNat b).readByte a.toNat = b := readByte_writeByte_same m _ b 0 hwf
      exact congrArg some (hrest.trans hhead).symm
    | succ k =>
      have htail := ih (a := a + 1) (wf_writeByte m a b hwf) (by omega) (Nat.lt_of_succ_lt_succ hk)
      rw [show (a + 1).toNat + k = a.toNat + (k + 1) by omega] at htail
      exact htail

/-- `REF_BUS` and `BUS_SHORT` store alike (95_test_vectors.md 2.8). -/
theorem busAnswer_write_of_reference_or_short {s : State} {a : Byte} {v : Buf}
    (h : s.bus = .reference ∨ s.bus = .short) :
    busAnswer s (.write a v) = (some (.ok []), s.bus, s.img.writeBlock a v) := by
  rcases h with h | h
  · rw [busAnswer_reference_write h, h]
  · rw [busAnswer_short_write h, h]

/-- Settles O50: each bus's answer, its blocks read and stored byte by byte. -/
theorem busAnswers : Obligations.BusAnswers := by
  unfold Obligations.BusAnswers
  refine ⟨fun s t reply rest h => busAnswer_scheduled h, fun s t h => busAnswer_free h, ?reference, ?short, ?store,
    fun s t h => busAnswer_fail h⟩
  case reference =>
    intro s a n h hfit
    exact ⟨_, busAnswer_reference_read h, length_readBlock .., fun k hk => getElem?_readBlock s.img hfit hk⟩
  case short =>
    intro s a n h hfit
    have hfit' : a.toNat + (n - 1) ≤ 256 := by omega
    exact ⟨_, busAnswer_short_read h, length_readBlock .., fun k hk => getElem?_readBlock s.img hfit' hk⟩
  case store =>
    intro s a v h hwf hfit
    exact ⟨_, _, busAnswer_write_of_reference_or_short h, wf_writeBlock s.img a v hwf,
      fun k hk => getElem?_eq_readByte_writeBlock hwf hfit hk,
      fun j hj => readByte_writeBlock_outside s.img a v j hfit hj⟩

end Sys2Proof.Proofs
end

section
/-! Codec operations never access the bus (20_memory.md R61). Each operation of 30_encoding.md R85 is a Codec operation,
whose response is a value or an error of its operands alone, or a marshalling operation, with a selector from 0x40 on. -/

namespace Sys2Proof.Proofs

open Sys2Proof.Machine Sys2Proof.Spec

/-- The statements' answer to a request (`Spec.answered`) is the machine's. -/
theorem answered_eq_answer (s : State) (r : Except BlockError Value) : answered s r = s.answer r := by
  cases r <;> rfl

/-- `exec` of `i` is one response, the same in every state. -/
def RespondsAlike (i : Instr) : Prop :=
  ∃ r, ∀ s, exec i s = respond s r

/-- The two kinds of operation (R61, R85): the marshalling operations are named, every other one is a Codec
operation. -/
theorem respondsAlike_or_marshalling (i : Instr) : RespondsAlike i ∨ 0x40 ≤ (encode i).sel.toNat := by
  cases i with
  | getProfile | setControl1 | setControl2 | setControl3 | getTime | setTime | getAlarm | setAlarm | getOffset
  | setOffset | getTimer | setTimer | setTimerControl | setTimerAFreq | setTimerAValue | setTimerBFreq
  | setTimerBValue | softReset => exact .inr (by simp [encode])
  | _ => exact .inl ⟨_, fun _ => rfl⟩

/-- An operation that responds alike in every state issues no transaction. -/
theorem RespondsAlike.busLog_eq {i : Instr} {s s' : State} (hi : RespondsAlike i) (h : exec i s = .next s') :
    s'.busLog = s.busLog := by
  obtain ⟨r, hr⟩ := hi
  have hs' : s' = s.answer r := respond_next.mp (hr s ▸ h)
  rw [hs', answer_busLog]

/-- Settles O51: by the two kinds of operation, whose selectors do not meet. -/
theorem codecOperationsArePure : Obligations.CodecOperationsArePure := by
  unfold Obligations.CodecOperationsArePure
  constructor
  · intro i hsel
    rcases respondsAlike_or_marshalling i with ⟨r, hr⟩ | hmarshalling
    · exact ⟨r, fun s => by rw [hr s, answered_eq_answer, respond]⟩
    · omega
  · intro i s s' h hlog
    rcases respondsAlike_or_marshalling i with hcodec | hmarshalling
    · exact absurd (hcodec.busLog_eq h) hlog
    · exact hmarshalling

end Sys2Proof.Proofs
end

section
/-! The decoder (30_encoding.md R80, R81, R83, R85, R86), said once: a request with an unassigned selector is illegal, one
with another selector's record is a mismatch, and a well-formed one decodes to the operation whose encoding it is once its
omitted defaults are written out. -/

namespace Sys2Proof.Proofs

open Sys2Proof.Spec

/-! ## The rows of the operation map -/

theorem isSome_decodeRow_eq_empty (n : Nat) (ops : OperandRecord) :
    (decodeRow n ops).isSome = (decodeRow n .empty).isSome := by
  unfold decodeRow
  split <;> rfl

theorem isSome_decodeRow_empty : ∀ sel : Byte, (decodeRow sel.toNat .empty).isSome = selectorAssigned sel := by
  decide +kernel

/-- The selector alone says whether there is a row, and the selectors with a row are the assigned ones. -/
theorem isSome_decodeRow (sel : Byte) (ops : OperandRecord) :
    (decodeRow sel.toNat ops).isSome = selectorAssigned sel :=
  (isSome_decodeRow_eq_empty _ _).trans (isSome_decodeRow_empty sel)

/-- Each row for a record's shape reads the record, as the operation whose encoding it is. -/
theorem decodeRow_of_mem_selectorsOf {n : Nat} {ops : OperandRecord} (h : n ∈ selectorsOf ops) :
    ∃ i, decodeRow n ops = some (some i) ∧ encode i = ⟨BitVec.ofNat 8 n, ops.explicit⟩ := by
  cases ops <;> (fin_cases h <;> exact ⟨_, rfl, rfl⟩)

/-- No row reads a record of another shape: a row's reader has one arm that answers. -/
theorem mem_selectorsOf_of_decodeRow {n : Nat} {ops : OperandRecord} {i : Instr}
    (h : decodeRow n ops = some (some i)) : n ∈ selectorsOf ops := by
  unfold decodeRow at h
  split at h
  case h_62 => cases h
  all_goals
    rw [Option.some_inj] at h
    simp only [bitsExtractOp, bitsPackOp, bcdDecodeOp, bcdEncodeOp, tc7DecodeOp, tc7EncodeOp, yearDecodeOp, yearEncodeOp,
      hourTo24Op, weekdayNameOp, monthNameOp, bufOp, bufModeOp, emptyOp, control1Op, control2Op, control3Op, timeDecodeOp,
      timeEncodeOp, alarmMinuteEncodeOp, alarmHourEncodeOp, alarmDayEncodeOp, alarmWeekdayEncodeOp, alarmEncodeOp,
      offsetOp, timerControlOp, timerAFreqOp, timerBFreqOp, timerValueOp, timerBlockOp, timerDurationOp, getTimeOp,
      setTimeOp, getAlarmOp, setAlarmOp] at h
    split at h
    · simp [selectorsOf]
    · cases h

/-! ## The three answers of the decoder -/

variable {r : Request}

theorem decode_of_unassigned (h : selectorAssigned r.sel = false) : decode r = .illegalSelector r.sel := by
  have hrow : decodeRow r.sel.toNat r.ops = none := by
    rw [← Option.isNone_iff_eq_none, ← Option.not_isSome, isSome_decodeRow, h]
    rfl
  rw [decode, hrow]

theorem decode_of_mismatch (hsel : selectorAssigned r.sel = true) (hops : recordMatches r.sel r.ops = false) :
    decode r = .operandMismatch r.sel := by
  obtain ⟨read, hrow⟩ := Option.isSome_iff_exists.mp ((isSome_decodeRow r.sel r.ops).trans hsel)
  cases read with
  | none => rw [decode, hrow]
  | some i =>
    have hmem : recordMatches r.sel r.ops = true := List.contains_iff_mem.mpr (mem_selectorsOf_of_decodeRow hrow)
    exact absurd hmem (by simp [hops])

theorem decode_of_recordMatches (h : recordMatches r.sel r.ops = true) :
    ∃ i, decode r = .ok i ∧ encode i = ⟨r.sel, r.ops.explicit⟩ := by
  obtain ⟨i, hrow, hencode⟩ := decodeRow_of_mem_selectorsOf (List.contains_iff_mem.mp h)
  rw [BitVec.ofNat_toNat, BitVec.setWidth_eq] at hencode
  exact ⟨i, by rw [decode, hrow], hencode⟩

/-- The other two answers of the decoder are not operations. -/
theorem wellFormed_of_decode {i : Instr} (h : decode r = .ok i) : r.wellFormed = true := by
  cases hsel : selectorAssigned r.sel with
  | false => cases (decode_of_unassigned hsel).symm.trans h
  | true =>
    cases hops : recordMatches r.sel r.ops with
    | false => cases (decode_of_mismatch hsel hops).symm.trans h
    | true => simp [Request.wellFormed, hsel, hops]

theorem recordMatches_of_wellFormed (h : r.wellFormed = true) : recordMatches r.sel r.ops = true :=
  (Bool.and_eq_true_iff.mp h).2

theorem selectorAssigned_of_wellFormed (h : r.wellFormed = true) : selectorAssigned r.sel = true :=
  (Bool.and_eq_true_iff.mp h).1

/-! ## Decode and encode -/

/-- The selector the encoder writes names the operation's row, that row's reader takes the record the encoder writes, and
the defaults written out are filled in with themselves. -/
theorem decode_encode (i : Instr) : decode (encode i) = .ok i := by
  cases i <;> rfl

theorem explicit_eq_encode_of_decode {i : Instr} (h : decode r = .ok i) :
    (⟨r.sel, r.ops.explicit⟩ : Request) = encode i := by
  obtain ⟨j, hj, hencode⟩ := decode_of_recordMatches (recordMatches_of_wellFormed (wellFormed_of_decode h))
  have hij : i = j := Decoded.ok.inj (h.symm.trans hj)
  rw [hij, hencode]

/-- Settles O10: the encoder's request is read back, and every request read as an operation is that one up to omitted
defaults. -/
theorem decodeAndEncodeAgree : Obligations.DecodeAndEncodeAgree := by
  unfold Obligations.DecodeAndEncodeAgree
  intro i
  exact ⟨decode_encode i, fun _ h => explicit_eq_encode_of_decode h⟩

/-- Settles O11: by the three answers of the decoder. -/
theorem decodesExactlyWellFormed : Obligations.DecodesExactlyWellFormed := by
  unfold Obligations.DecodesExactlyWellFormed
  intro r
  constructor
  · rintro ⟨i, h⟩
    exact wellFormed_of_decode h
  · intro h
    obtain ⟨i, hi, -⟩ := decode_of_recordMatches (recordMatches_of_wellFormed h)
    exact ⟨i, hi⟩

/-! ## Requests written out -/

/-- Settles O12: each request is evaluated. -/
theorem writtenRequestsDecode : Obligations.WrittenRequestsDecode := by
  unfold Obligations.WrittenRequestsDecode
  exact ⟨rfl, rfl, rfl, rfl, rfl, rfl, rfl, rfl⟩

/-- Settles O13: each request's row fills its record's omitted fields in with `false`. -/
theorem omittedFieldsAreFalse : Obligations.OmittedFieldsAreFalse := by
  unfold Obligations.OmittedFieldsAreFalse
  exact ⟨fun _ _ _ => rfl, fun _ => rfl, fun _ _ _ _ _ => rfl, fun _ => rfl, fun _ _ _ => rfl, fun _ => rfl, fun _ => rfl,
    fun _ _ => rfl⟩

/-! ## Selectors that name no operation -/

/-- The ranges of R86 are the gaps between those of R85. -/
theorem illegalSel_iff_unassigned (sel : Byte) : illegalSel sel.toNat ↔ selectorAssigned sel = false := by
  have hbyte : sel.toNat < 256 := sel.isLt
  simp only [illegalSel, selectorAssigned, Bool.or_eq_false_iff, Bool.and_eq_false_iff, decide_eq_false_iff_not]
  omega

theorem not_illegalSel_iff_assigned (sel : Byte) : ¬ illegalSel sel.toNat ↔ selectorAssigned sel = true := by
  rw [illegalSel_iff_unassigned, Bool.not_eq_false]

theorem recordMatches_zeroRecord :
    ∀ sel : Byte, selectorAssigned sel = true → recordMatches sel (zeroRecord sel.toNat) = true := by
  decide +kernel

/-- The assigned selectors are the encoder's: the operation is the one the selector's zero record asks for. -/
theorem exists_encode_sel_iff_assigned (sel : Byte) : (∃ i, (encode i).sel = sel) ↔ selectorAssigned sel = true := by
  constructor
  · rintro ⟨i, rfl⟩
    exact selectorAssigned_of_wellFormed (wellFormed_of_decode (decode_encode i))
  · intro h
    have hzero := recordMatches_zeroRecord sel h
    obtain ⟨i, -, hencode⟩ := decode_of_recordMatches (r := ⟨sel, zeroRecord sel.toNat⟩) hzero
    exact ⟨i, congrArg Request.sel hencode⟩

end Sys2Proof.Proofs
end

section
/-! Dispatch (30_encoding.md R81, R86, R87): what a step of a running state does with its next request, one lemma for each
of the three checks, in their order, and one for the operation (`step_decoded`). -/

namespace Sys2Proof.Proofs

open Sys2Proof.Machine Sys2Proof.Spec

variable {s : State} {r : Request}

theorem step_of_running (hrun : s.status = .running) (hfetch : fetch s = some r) : step s = performRequest s r := by
  simp only [step, turn, hrun, hfetch]

/-- A rejection is the error and nothing else (R81, R247). -/
theorem performRequest_of_reject {e : BlockError} (h : dispatch s.unimplemented r = .reject e) :
    performRequest s r = .next (s.raise e) := by
  rw [performRequest, h]
  rfl

theorem step_illegal (hrun : s.status = .running) (hfetch : fetch s = some r) (hsel : selectorAssigned r.sel = false) :
    step s = .next (s.raise (illegalOperation r.sel)) := by
  rw [step_of_running hrun hfetch]
  exact performRequest_of_reject (dispatch_illegal (decode_of_unassigned hsel))

/-- The build profile is asked before the record is read (R81). -/
theorem dispatch_unimplemented {u : List Byte} (hsel : selectorAssigned r.sel = true) (hu : r.sel ∈ u) :
    dispatch u r = .reject (notImplementedError r.sel) := by
  have hu' : u.contains r.sel = true := List.contains_iff_mem.mpr hu
  cases hops : recordMatches r.sel r.ops with
  | false => rw [dispatch, decode_of_mismatch hsel hops]; exact if_pos hu'
  | true =>
    obtain ⟨i, hi, -⟩ := decode_of_recordMatches hops
    rw [dispatch_ok hi, if_pos hu']

theorem step_unimplemented (hrun : s.status = .running) (hfetch : fetch s = some r)
    (hsel : selectorAssigned r.sel = true) (hu : r.sel ∈ s.unimplemented) :
    step s = .next (s.raise (notImplementedError r.sel)) := by
  rw [step_of_running hrun hfetch]
  exact performRequest_of_reject (dispatch_unimplemented hsel hu)

theorem step_mismatch (hrun : s.status = .running) (hfetch : fetch s = some r) (hsel : selectorAssigned r.sel = true)
    (hu : r.sel ∉ s.unimplemented) (hops : recordMatches r.sel r.ops = false) :
    step s = .refused (.operandMismatch r.sel) := by
  have hdispatch : dispatch s.unimplemented r = .mismatch r.sel := by
    rw [dispatch, decode_of_mismatch hsel hops]
    exact if_neg (mt List.contains_iff_mem.mp hu)
  rw [step_of_running hrun hfetch, performRequest, hdispatch]

/-- Settles O5: the dispatch law of a decoded request. -/
theorem stepRunsDecodedRequest : Obligations.StepRunsDecodedRequest := by
  unfold Obligations.StepRunsDecodedRequest
  intro s r i hrun hfetch hdecode hu
  exact step_decoded hrun hfetch hdecode (Bool.eq_false_iff.mpr (mt List.contains_iff_mem.mp hu))

/-- Settles O6: one clause for each step of dispatch. -/
theorem dispatchOrder : Obligations.DispatchOrder := by
  unfold Obligations.DispatchOrder
  intro s r hrun hfetch
  refine ⟨fun hillegal => ?illegal, fun hlegal hu => ?unimplemented, fun i _ hu hdecode => ?performed⟩
  case illegal => exact step_illegal hrun hfetch ((illegalSel_iff_unassigned r.sel).mp hillegal)
  case unimplemented => exact step_unimplemented hrun hfetch ((not_illegalSel_iff_assigned r.sel).mp hlegal) hu
  case performed => exact stepRunsDecodedRequest s r i hrun hfetch hdecode hu

/-- Settles O7: the illegal selectors are those the encoder does not write, and dispatch's first check answers them. -/
theorem illegalSelectorsRaise : Obligations.IllegalSelectorsRaise := by
  unfold Obligations.IllegalSelectorsRaise
  constructor
  · intro sel
    rw [illegalSel_iff_unassigned, ← Bool.not_eq_true, ← exists_encode_sel_iff_assigned, not_exists]
  · intro s r hrun hfetch hillegal
    exact step_illegal hrun hfetch ((illegalSel_iff_unassigned r.sel).mp hillegal)

/-- Settles O8: reset leaves no selector out, and dispatch's second check answers those that are left out. -/
theorem unimplementedSelectorsRaise : Obligations.UnimplementedSelectorsRaise := by
  unfold Obligations.UnimplementedSelectorsRaise
  refine ⟨rfl, ?_⟩
  intro s r i hrun hfetch hsel hu
  exact step_unimplemented hrun hfetch ((exists_encode_sel_iff_assigned r.sel).mp ⟨i, hsel.symm⟩) hu

/-- Settles O9: the last check of dispatch. -/
theorem illTypedRecordIsRefused : Obligations.IllTypedRecordIsRefused := by
  unfold Obligations.IllTypedRecordIsRefused
  intro s r hrun hfetch hlegal hu hops
  exact step_mismatch hrun hfetch ((not_illegalSel_iff_assigned r.sel).mp hlegal) hu hops

end Sys2Proof.Proofs
end

section
/-! Responses as the statements write them: a Codec operation answers one value or error (20_memory.md R61), and a list
of checks answers the first that fails. -/

namespace Sys2Proof.Proofs

open Sys2Proof.Machine Sys2Proof.Spec

/-- A Codec operation's next state, once its response is the statement's. -/
theorem respond_eq_answered {r r' : Except BlockError Value} (s : State) (h : r = r') :
    respond s r = .next (answered s r') := by
  rw [answered_eq_answer, h, respond]

theorem rangeError_eq_err (n : FieldName) : rangeError n = err .rangeError n := rfl

theorem rangeErrorWith_eq_errText (n : FieldName) (text : String) :
    rangeErrorWith n text = errText .rangeError n text := rfl

variable {α β : Type}

theorem firstOf_nil (a : α) : firstOf [] a = .ok a := rfl

theorem firstOf_cons (c : Bool) (e : BlockError) (rest : List (Bool × BlockError)) (a : α) :
    firstOf ((c, e) :: rest) a = if c then .error e else firstOf rest a := by
  cases c <;> rfl

theorem map_firstOf (checks : List (Bool × BlockError)) (a : α) (g : α → β) :
    (firstOf checks a).map g = firstOf checks (g a) := by
  induction checks with
  | nil => rfl
  | cons check rest ih =>
    obtain ⟨_ | _, e⟩ := check
    · exact ih
    · rfl

end Sys2Proof.Proofs
end

section
/-! Field descriptors (41_primitives.md, helper): the model's descriptor checks are the statements' inequalities. -/

namespace Sys2Proof.Proofs

open Sys2Proof.Machine Sys2Proof.Spec

variable {f g : FieldDesc}

theorem validDesc_eq (f : FieldDesc) : validDesc f = decide (isField f) := by
  simp [validDesc, isField, Bool.decide_and, Bool.and_assoc]

theorem ext_eq_field (b : Byte) (f : FieldDesc) : ext b f = field b (low f) f.w.toNat := ext_eq b f

/-- The low end and the width of a field of a byte lose nothing as natural numbers. -/
theorem low_and_width_eq (hf : isField f) : (low f : Int) = f.pos - f.w + 1 ∧ (f.w.toNat : Int) = f.w := by
  obtain ⟨hw, -, -, -, hlow⟩ := hf
  exact ⟨Int.toNat_of_nonneg hlow, Int.toNat_of_nonneg (by omega)⟩

theorem coversBit_iff (hf : isField f) (k : Nat) : coversBit f k ↔ low f ≤ k ∧ k < low f + f.w.toNat := by
  obtain ⟨hlow, hwidth⟩ := low_and_width_eq hf
  rw [coversBit, ← hlow]
  omega

/-- Two fields of a byte share a bit exactly when their bit ranges meet: the higher of the two low ends is shared. -/
theorem fieldsOverlap_eq (hf : isField f) (hg : isField g) : fieldsOverlap f g = decide (meet f g) := by
  rw [Bool.eq_iff_iff]
  simp only [fieldsOverlap, covers, List.any_eq_true, List.mem_range, Bool.and_eq_true, decide_eq_true_eq]
  constructor
  · rintro ⟨k, -, ⟨hf1, hf2⟩, hg1, hg2⟩
    exact ⟨by omega, by omega⟩
  · rintro ⟨hfg, hgf⟩
    obtain ⟨hlowf, -⟩ := low_and_width_eq hf
    obtain ⟨hlowg, -⟩ := low_and_width_eq hg
    refine ⟨max (low f) (low g), ?_⟩
    omega

theorem anyOverlap_iff {fs : List FieldDesc} (h : ∀ f ∈ fs, isField f) :
    anyOverlap fs = true ↔ ¬ fs.Pairwise fun f g => ¬ meet f g := by
  induction fs with
  | nil => simp [anyOverlap]
  | cons f rest ih =>
    obtain ⟨hf, hrest⟩ := List.forall_mem_cons.mp h
    have hhead : rest.any (fieldsOverlap f) = true ↔ ¬ ∀ g ∈ rest, ¬ meet f g := by
      rw [List.any_eq_true]
      push Not
      exact exists_congr fun g => and_congr_right fun hg => by
        rw [fieldsOverlap_eq hf (hrest g hg), decide_eq_true_eq]
    rw [anyOverlap, Bool.or_eq_true, hhead, ih hrest, List.pairwise_cons, not_and_or]

theorem anyOverlap_eq_false {fs : List FieldDesc} (h : ∀ f ∈ fs, isField f)
    (hapart : fs.Pairwise fun f g => ¬ meet f g) : anyOverlap fs = false :=
  Bool.eq_false_iff.mpr fun hoverlap => (anyOverlap_iff h).mp hoverlap hapart

theorem fieldMask_eq (f : FieldDesc) : (fieldMask f : Int) = 2 ^ f.w.toNat - 1 := by
  rw [fieldMask, Nat.cast_pred (Nat.two_pow_pos _), Nat.cast_pow, Nat.cast_two]

theorem valueMisfit_iff (f : FieldDesc) (v : Int) : valueMisfit f v = true ↔ misfits f v := by
  rw [valueMisfit, Bool.or_eq_true, decide_eq_true_eq, decide_eq_true_eq, fieldMask_eq, Int.sub_one_lt_iff]

theorem anyMisfit_iff (fs : List FieldDesc) (vs : List Int) :
    anyMisfit fs vs = true ↔ ∃ p ∈ fs.zip vs, misfits p.1 p.2 := by
  induction fs generalizing vs with
  | nil => simp [anyMisfit]
  | cons f fs ih =>
    cases vs with
    | nil => simp [anyMisfit]
    | cons v vs =>
      rw [anyMisfit, Bool.or_eq_true, valueMisfit_iff, ih, List.zip_cons_cons, List.exists_mem_cons_iff]

end Sys2Proof.Proofs
end

section
/-! The packing loop (41_primitives.md R101), bit by bit. A bit that a field covers comes from that field's value alone,
since the fields do not meet, and a bit that no field covers is 0, since each value stays inside its field. -/

namespace Sys2Proof.Proofs

open Sys2Proof.Machine Sys2Proof.Spec

variable {f : FieldDesc} {v : Int} {fs : List FieldDesc} {vs : List Int}

/-- The fields and values that pass every check of R101. -/
structure Packable (fs : List FieldDesc) (vs : List Int) : Prop where
  length_eq : fs.length = vs.length
  isField_of_mem : ∀ f ∈ fs, isField f
  disjoint : fs.Pairwise fun f g => ¬ meet f g
  fits : ∀ p ∈ fs.zip vs, ¬ misfits p.1 p.2

theorem testBit_packLoop (acc : Nat) (fs : List FieldDesc) (vs : List Int) (k : Nat) :
    (packLoop acc fs vs).testBit k =
      (acc.testBit k || (fs.zip vs).any fun p => (p.2.toNat <<< low p.1).testBit k) := by
  induction fs generalizing acc vs with
  | nil => simp [packLoop]
  | cons f fs ih =>
    cases vs with
    | nil => simp [packLoop]
    | cons v vs =>
      rw [packLoop, ih, Nat.testBit_lor, List.zip_cons_cons, List.any_cons, Bool.or_assoc]
      rfl

theorem toNat_lt_of_fits (h : ¬ misfits f v) : v.toNat < 2 ^ f.w.toNat := by
  rw [misfits, not_or, not_lt, not_le] at h
  obtain ⟨hnonneg, hlt⟩ := h
  exact (Int.toNat_lt hnonneg).mpr (by exact_mod_cast hlt)

/-- A value that fits stays inside its field. -/
theorem coversBit_of_testBit (hf : isField f) (hv : ¬ misfits f v) {k : Nat}
    (h : (v.toNat <<< low f).testBit k = true) : coversBit f k := by
  rw [Nat.testBit_shiftLeft, Bool.and_eq_true, decide_eq_true_eq] at h
  obtain ⟨hlow, hbit⟩ := h
  have hk : k - low f < f.w.toNat := by
    by_contra hge
    have hsmall : v.toNat < 2 ^ (k - low f) :=
      (toNat_lt_of_fits hv).trans_le (Nat.pow_le_pow_right Nat.two_pos (Nat.le_of_not_lt hge))
    exact Bool.false_ne_true ((Nat.testBit_lt_two_pow hsmall).symm.trans hbit)
  exact (coversBit_iff hf k).mpr ⟨hlow, by omega⟩

/-- A field whose bits are those of a value placed there holds the value. -/
theorem field_byteOf (hf : isField f) (hv : ¬ misfits f v) {n : Nat}
    (h : ∀ k : Nat, coversBit f k → n.testBit k = (v.toNat <<< low f).testBit k) :
    field (byteOf n) (low f) f.w.toNat = v := by
  have hbits : (byteOf n).toNat / 2 ^ low f % 2 ^ f.w.toNat = v.toNat := by
    refine Nat.eq_of_testBit_eq fun j => ?_
    rw [Nat.testBit_mod_two_pow, Nat.testBit_div_two_pow, byteOf, BitVec.toNat_ofNat, Nat.testBit_mod_two_pow]
    by_cases hj : j < f.w.toNat
    · have hcov : coversBit f (low f + j : Nat) := (coversBit_iff hf _).mpr (by omega)
      have hbyte : j + low f < 8 := by
        obtain ⟨-, -, -, hpos, -⟩ := hf
        obtain ⟨-, hle⟩ := hcov
        omega
      rw [decide_eq_true hj, decide_eq_true hbyte, Nat.add_comm j, h _ hcov, Nat.testBit_shiftLeft]
      simp
    · have hsmall : v.toNat < 2 ^ j :=
        (toNat_lt_of_fits hv).trans_le (Nat.pow_le_pow_right Nat.two_pos (Nat.le_of_not_lt hj))
      rw [decide_eq_false hj, Bool.false_and, Nat.testBit_lt_two_pow hsmall]
  have hnonneg : 0 ≤ v := not_lt.mp (not_or.mp hv).1
  rw [field, hbits, Int.toNat_of_nonneg hnonneg]

theorem bitAt_eq_testBit (b : Byte) (k : Nat) : bitAt b k = b.toNat.testBit k := (bit_eq b k).symm

/-- Two places of a list of fields and values are one place, or their fields do not meet. -/
def SameOrApart (p q : FieldDesc × Int) : Prop := p = q ∨ ¬ meet p.1 q.1

theorem sameOrApart_symm : Std.Symm SameOrApart :=
  ⟨fun _ _ h => h.imp Eq.symm (mt And.symm)⟩

namespace Packable

theorem sameOrApart (h : Packable fs vs) {p q : FieldDesc × Int} (hp : p ∈ fs.zip vs) (hq : q ∈ fs.zip vs) :
    SameOrApart p q := by
  have hzip : ((fs.zip vs).map Prod.fst).Pairwise fun f g => ¬ meet f g := by
    rw [List.map_fst_zip h.length_eq.le]
    exact h.disjoint
  have hapart : (fs.zip vs).Pairwise SameOrApart := (List.pairwise_map.mp hzip).imp .inr
  have := sameOrApart_symm
  exact hapart.forall_of_forall (fun _ _ => .inl rfl) hp hq

theorem testBit_of_covers (h : Packable fs vs) {p : FieldDesc × Int} (hp : p ∈ fs.zip vs) {k : Nat}
    (hk : coversBit p.1 k) : (packLoop 0 fs vs).testBit k = (p.2.toNat <<< low p.1).testBit k := by
  rw [testBit_packLoop, Nat.zero_testBit, Bool.false_or, Bool.eq_iff_iff, List.any_eq_true]
  constructor
  · rintro ⟨q, hq, hbit⟩
    obtain ⟨hq1, hq2⟩ := coversBit_of_testBit (h.isField_of_mem _ (List.of_mem_zip hq).1) (h.fits q hq) hbit
    rcases h.sameOrApart hp hq with rfl | hmeet
    · exact hbit
    · exact absurd ⟨hk.1.trans hq2, hq1.trans hk.2⟩ hmeet
  · exact fun hbit => ⟨p, hp, hbit⟩

theorem field_eq (h : Packable fs vs) {p : FieldDesc × Int} (hp : p ∈ fs.zip vs) :
    field (byteOf (packLoop 0 fs vs)) (low p.1) p.1.w.toNat = p.2 :=
  field_byteOf (h.isField_of_mem _ (List.of_mem_zip hp).1) (h.fits p hp) fun _ hk => h.testBit_of_covers hp hk

theorem bitAt_uncovered (h : Packable fs vs) {k : Nat} (hk : ∀ f ∈ fs, ¬ coversBit f k) :
    bitAt (byteOf (packLoop 0 fs vs)) k = false := by
  have hany : (fs.zip vs).any (fun p => (p.2.toNat <<< low p.1).testBit k) = false := by
    refine List.any_eq_false.mpr fun p hp hbit => ?_
    have hmem := (List.of_mem_zip hp).1
    exact hk p.1 hmem (coversBit_of_testBit (h.isField_of_mem _ hmem) (h.fits p hp) hbit)
  rw [bitAt_eq_testBit, byteOf, BitVec.toNat_ofNat, Nat.testBit_mod_two_pow, testBit_packLoop, hany]
  simp

end Packable

end Sys2Proof.Proofs
end

section
/-! Bit fields (41_primitives.md R100, R101): BITS_EXTRACT and the five outcomes of BITS_PACK. -/

namespace Sys2Proof.Proofs

open Sys2Proof.Machine Sys2Proof.Spec

theorem bitsExtract_eq (b : Byte) (f : FieldDesc) :
    (bitsExtract b f).map Value.int =
      if isField f then .ok (.int (field b (low f) f.w.toNat)) else .error (err .rangeError .f) := by
  rw [bitsExtract, validDesc_eq, ext_eq_field]
  by_cases hf : isField f
  · rw [if_pos hf, if_pos (decide_eq_true hf)]; rfl
  · rw [if_neg hf, if_neg (by rwa [decide_eq_true_eq])]; rfl

variable {fs : List FieldDesc} {vs : List Int}

theorem all_validDesc_iff : fs.all validDesc = true ↔ ∀ f ∈ fs, isField f := by
  simp only [List.all_eq_true, validDesc_eq, decide_eq_true_eq]

theorem bitsPack_of_length_ne (h : fs.length ≠ vs.length) : bitsPack fs vs = .error (rangeError .values) :=
  if_pos h

theorem bitsPack_of_not_isField (hlen : fs.length = vs.length) (h : ∃ f ∈ fs, ¬ isField f) :
    bitsPack fs vs = .error (rangeError .fields) := by
  have hvalid : fs.all validDesc = false := by
    rw [← Bool.not_eq_true, all_validDesc_iff]
    simpa only [not_forall, exists_prop] using h
  simp [bitsPack, hlen, hvalid]

theorem bitsPack_of_meet (hlen : fs.length = vs.length) (hfields : ∀ f ∈ fs, isField f)
    (h : ¬ fs.Pairwise fun f g => ¬ meet f g) : bitsPack fs vs = .error (rangeError .fields) := by
  simp [bitsPack, hlen, all_validDesc_iff.mpr hfields, (anyOverlap_iff hfields).mpr h]

theorem bitsPack_of_misfits (hlen : fs.length = vs.length) (hfields : ∀ f ∈ fs, isField f)
    (hapart : fs.Pairwise fun f g => ¬ meet f g) (h : ∃ p ∈ fs.zip vs, misfits p.1 p.2) :
    bitsPack fs vs = .error (rangeError .values) := by
  simp [bitsPack, hlen, all_validDesc_iff.mpr hfields, anyOverlap_eq_false hfields hapart, (anyMisfit_iff fs vs).mpr h]

theorem Packable.bitsPack_eq (h : Packable fs vs) : bitsPack fs vs = .ok (byteOf (packLoop 0 fs vs)) := by
  have hoverlap := anyOverlap_eq_false h.isField_of_mem h.disjoint
  have hmisfit : anyMisfit fs vs = false := by
    refine Bool.eq_false_iff.mpr fun hmisfit => ?_
    obtain ⟨p, hp, hp'⟩ := (anyMisfit_iff fs vs).mp hmisfit
    exact h.fits p hp hp'
  simp [bitsPack, h.length_eq, all_validDesc_iff.mpr h.isField_of_mem, hoverlap, hmisfit, byteOf]

/-- Settles O14: the shift and mask of the field are a quotient and a remainder. -/
theorem bitsExtractResult : Obligations.BitsExtractResult := by
  unfold Obligations.BitsExtractResult
  intro b f s
  exact ⟨rfl, respond_eq_answered s (bitsExtract_eq b f)⟩

/-- Settles O15: one case for each check of R101, and the byte's fields and uncovered bits read off the packing loop. -/
theorem bitsPackResult : Obligations.BitsPackResult := by
  unfold Obligations.BitsPackResult
  intro fs vs s
  have hexec : ∀ {r}, bitsPack fs vs = r → exec (.bitsPack fs vs) s = .next (answered s (r.map Value.byte)) :=
    fun h => respond_eq_answered s (congrArg _ h)
  refine ⟨rfl, fun hlen => hexec (bitsPack_of_length_ne hlen), fun hlen => ?sameLength⟩
  refine ⟨fun hbad => hexec (bitsPack_of_not_isField hlen hbad), fun hfields => ?allFields⟩
  refine ⟨fun hmeet => hexec (bitsPack_of_meet hlen hfields hmeet), fun hapart => ?noOverlap⟩
  refine ⟨fun hmisfit => hexec (bitsPack_of_misfits hlen hfields hapart hmisfit), fun hfits => ?packed⟩
  have h : Packable fs vs := ⟨hlen, hfields, hapart, hfits⟩
  exact ⟨_, hexec h.bitsPack_eq, fun p hp => h.field_eq hp, fun k _ hk => h.bitAt_uncovered hk⟩

end Sys2Proof.Proofs
end

section
/-! BCD in two fields (41_primitives.md R102, R103, R113). The encode's byte is what BITS_PACK makes of the two digits,
so its fields are read by the packing lemmas. -/

namespace Sys2Proof.Proofs

open Sys2Proof.Machine Sys2Proof.Spec

variable {tens units : FieldDesc} {v : Int}

theorem bcdValue_eq (b : Byte) (tens units : FieldDesc) :
    bcdValue b tens units = 10 * field b (low tens) tens.w.toNat + field b (low units) units.w.toNat := by
  rw [bcdValue, ext_eq_field, ext_eq_field]

theorem bcdDecode_eq (b : Byte) (tens units : FieldDesc) :
    bcdDecode b tens units =
      firstOf [(decide (¬ isField tens), err .rangeError .tens), (decide (¬ isField units), err .rangeError .units)]
        (10 * field b (low tens) tens.w.toNat + field b (low units) units.w.toNat) := by
  rw [bcdDecode, validDesc_eq, validDesc_eq, bcdValue_eq, firstOf_cons, firstOf_cons, firstOf_nil, decide_not,
    decide_not]
  rfl

theorem fieldLo_eq_low (f : FieldDesc) : fieldLo f = low f := rfl

/-- A value placed in a field lies below every field above it. -/
theorem shiftLeft_lt_two_pow_low {f g : FieldDesc} {n : Int} (hf : isField f) (hg : isField g)
    (hn : ¬ misfits f n) (h : f.pos < g.pos - g.w + 1) : n.toNat <<< low f < 2 ^ low g := by
  obtain ⟨hlowf, hwidthf⟩ := low_and_width_eq hf
  obtain ⟨hlowg, -⟩ := low_and_width_eq hg
  calc n.toNat <<< low f = n.toNat * 2 ^ low f := Nat.shiftLeft_eq ..
    _ < 2 ^ f.w.toNat * 2 ^ low f := Nat.mul_lt_mul_of_pos_right (toNat_lt_of_fits hn) (Nat.two_pow_pos _)
    _ = 2 ^ (f.w.toNat + low f) := (Nat.pow_add ..).symm
    _ ≤ 2 ^ low g := Nat.pow_le_pow_right Nat.two_pos (by omega)

/-- Values placed in two fields that do not meet are joined as they are added. -/
theorem shiftLeft_lor_shiftLeft {f g : FieldDesc} {m n : Int} (hf : isField f) (hg : isField g) (hmeet : ¬ meet f g)
    (hm : ¬ misfits f m) (hn : ¬ misfits g n) :
    m.toNat <<< low f ||| n.toNat <<< low g = m.toNat * 2 ^ low f + n.toNat * 2 ^ low g := by
  have hside : g.pos < f.pos - f.w + 1 ∨ f.pos < g.pos - g.w + 1 := by omega
  rw [← Nat.shiftLeft_eq, ← Nat.shiftLeft_eq]
  rcases hside with hgf | hfg
  · exact (Nat.shiftLeft_add_eq_or_of_lt (shiftLeft_lt_two_pow_low hg hf hn hgf) _).symm
  · rw [Nat.lor_comm, Nat.add_comm]
    exact (Nat.shiftLeft_add_eq_or_of_lt (shiftLeft_lt_two_pow_low hf hg hm hfg) _).symm

/-- For a number from 0 on, R103's comparison of the digits with the masks: no digit is negative, and the units digit is
the remainder. -/
theorem digits_misfit_iff (h0 : 0 ≤ v) :
    ((fieldMask tens : Int) < v / 10 ∨ (fieldMask units : Int) < v - 10 * (v / 10)) ↔
      misfits tens (v / 10) ∨ misfits units (v % 10) := by
  have hunits : v - 10 * (v / 10) = v % 10 := by omega
  have htens0 : ¬ v / 10 < 0 := by omega
  have hunits0 : ¬ v % 10 < 0 := by omega
  simp only [hunits, fieldMask_eq, Int.sub_one_lt_iff, misfits, htens0, hunits0, false_or]

/-- The checks of R103 in its order, as the statements write them. -/
theorem bcdEncode_eq (v : Int) (tens units : FieldDesc) :
    bcdEncode v tens units =
      firstOf
        [ (decide (¬ isField tens), err .rangeError .tens)
        , (decide (¬ isField units), err .rangeError .units)
        , (decide (meet tens units), err .rangeError .tens)
        , (out v 0 99, err .rangeError .v)
        , (decide (misfits tens (v / 10) ∨ misfits units (v % 10)), err .rangeError .v) ]
        (byteOf ((v / 10).toNat * 2 ^ low tens + (v % 10).toNat * 2 ^ low units)) := by
  simp only [bcdEncode, validDesc_eq, firstOf_cons, firstOf_nil, rangeError_eq_err, decide_not]
  by_cases ht : isField tens
  case neg => simp [ht]
  by_cases hu : isField units
  case neg => simp [ht, hu]
  rw [fieldsOverlap_eq ht hu]
  by_cases hmeet : meet tens units
  case pos => simp [ht, hu, hmeet]
  by_cases hrange : v < 0 ∨ 99 < v
  case pos => simp [ht, hu, hmeet, out, hrange]
  have hrem : v - 10 * (v / 10) = v % 10 := by omega
  simp only [digits_misfit_iff (not_lt.mp (not_or.mp hrange).1)]
  by_cases hfit : misfits tens (v / 10) ∨ misfits units (v % 10)
  case pos => simp [ht, hu, hmeet, out, hrange, hfit]
  obtain ⟨htens, hunits⟩ := not_or.mp hfit
  simp only [hrem, fieldLo_eq_low, shiftLeft_lor_shiftLeft ht hu hmeet htens hunits, byteOf]
  simp [ht, hu, hmeet, out, hrange, hfit]

/-- The digits of a number that R103 encodes are a list that R101 packs. -/
theorem packable_digits (ht : isField tens) (hu : isField units) (hmeet : ¬ meet tens units)
    (hfit : ¬ (misfits tens (v / 10) ∨ misfits units (v % 10))) : Packable [tens, units] [v / 10, v % 10] where
  length_eq := rfl
  isField_of_mem := by simp only [List.forall_mem_cons]; exact ⟨ht, hu, nofun⟩
  disjoint := List.pairwise_pair.mpr hmeet
  fits := by
    obtain ⟨htens, hunits⟩ := not_or.mp hfit
    simp only [List.zip_cons_cons, List.forall_mem_cons]
    exact ⟨htens, hunits, nofun⟩

/-- BCD_ENCODE of a number whose digits fit is their BITS_PACK. -/
theorem bcdEncode_eq_bitsPack (ht : isField tens) (hu : isField units) (hmeet : ¬ meet tens units) (h0 : 0 ≤ v)
    (h99 : v ≤ 99) (hfit : ¬ (misfits tens (v / 10) ∨ misfits units (v % 10))) :
    bcdEncode v tens units = bitsPack [tens, units] [v / 10, v % 10] := by
  obtain ⟨htens, hunits⟩ := not_or.mp hfit
  have hrange : out v 0 99 = false := decide_eq_false (by omega)
  have hpack : packLoop 0 [tens, units] [v / 10, v % 10] =
      (v / 10).toNat * 2 ^ low tens + (v % 10).toNat * 2 ^ low units :=
    (congrArg (· ||| _) (Nat.zero_or _)).trans (shiftLeft_lor_shiftLeft ht hu hmeet htens hunits)
  rw [(packable_digits ht hu hmeet hfit).bitsPack_eq, hpack]
  simp [bcdEncode_eq, firstOf_cons, firstOf_nil, ht, hu, hmeet, hrange, hfit]

/-- Settles O16: the machine's two checks and its two fields. -/
theorem bcdDecodeResult : Obligations.BcdDecodeResult := by
  unfold Obligations.BcdDecodeResult
  intro b tens units s
  exact ⟨rfl, respond_eq_answered s (by rw [bcdDecode_eq, map_firstOf])⟩

/-- Settles O17: the machine's five checks in order, and its two digits joined as they are added. -/
theorem bcdEncodeResult : Obligations.BcdEncodeResult := by
  unfold Obligations.BcdEncodeResult
  intro v tens units s
  exact ⟨rfl, respond_eq_answered s (by rw [bcdEncode_eq, map_firstOf])⟩

/-- Settles O18: the encode packs the two digits, each field of the packed byte holds its digit, and ten times the tens
digit plus the units digit is the number. -/
theorem bcdRoundTrip : Obligations.BcdRoundTrip := by
  unfold Obligations.BcdRoundTrip
  intro v tens units s s' ht hu hmeet h0 h99 htens hunits
  have hfit : ¬ (misfits tens (v / 10) ∨ misfits units (v % 10)) := by
    simp only [misfits, not_or, not_lt, not_le]
    exact ⟨⟨by omega, htens⟩, by omega, hunits⟩
  have hpackable := packable_digits ht hu hmeet hfit
  have htensField := hpackable.field_eq (p := (tens, v / 10)) (by simp)
  have hunitsField := hpackable.field_eq (p := (units, v % 10)) (by simp)
  have hencode := (bcdEncode_eq_bitsPack ht hu hmeet h0 h99 hfit).trans hpackable.bitsPack_eq
  refine ⟨_, respond_eq_answered s (congrArg _ hencode), respond_eq_answered s' ?_⟩
  have hdigits : 10 * (v / 10) + v % 10 = v := by omega
  simp [bcdDecode_eq, firstOf_cons, firstOf_nil, ht, hu, htensField, hunitsField, hdigits, Except.map]

end Sys2Proof.Proofs
end

section
/-! Seven-bit two's complement (41_primitives.md R104, R105, R114) and century-relative years (R106, R107, R115). -/

namespace Sys2Proof.Proofs

open Sys2Proof.Machine Sys2Proof.Spec

theorem tc7Decode_eq (raw : Int) :
    tc7Decode raw = firstOf [(out raw 0 127, err .rangeError .raw)] (signed7 raw) := by
  rw [firstOf_cons, firstOf_nil, out]
  by_cases h : raw < 0 ∨ 127 < raw
  · rw [if_pos (decide_eq_true h), tc7Decode_error raw h, rangeError_eq_err]
  · rw [if_neg (by rwa [decide_eq_true_eq]), tc7Decode_ok raw (by omega) (by omega), signed7]

theorem tc7Encode_eq (v : Int) :
    tc7Encode v = firstOf [(out v (-64) 63, err .rangeError .offsetValue)] (v % 128) := by
  rw [firstOf_cons, firstOf_nil, out]
  by_cases h : v < -64 ∨ 63 < v
  · rw [if_pos (decide_eq_true h), tc7Encode_error v h, rangeError_eq_err]
  · rw [if_neg (by rwa [decide_eq_true_eq]), tc7Encode_ok v (by omega) (by omega)]

/-- On its domain the encode's value is read back. -/
theorem signed7_emod {v : Int} (h0 : -64 ≤ v) (h1 : v ≤ 63) : signed7 (v % 128) = v := by
  rw [signed7]
  split <;> omega

/-- Each 7-bit value is read as a number of the encode's domain, which is encoded to it. -/
theorem signed7_range {raw : Int} (h0 : 0 ≤ raw) (h1 : raw ≤ 127) :
    -64 ≤ signed7 raw ∧ signed7 raw ≤ 63 ∧ signed7 raw % 128 = raw := by
  rw [signed7]
  split <;> omega

theorem exec_tc7Decode {raw : Int} (s : State) (h0 : 0 ≤ raw) (h1 : raw ≤ 127) :
    exec (.tc7Decode raw) s = .next (answered s (.ok (.int (signed7 raw)))) :=
  respond_eq_answered s (congrArg _ (tc7Decode_ok raw h0 h1))

theorem exec_tc7Encode {v : Int} (s : State) (h0 : -64 ≤ v) (h1 : v ≤ 63) :
    exec (.tc7Encode v) s = .next (answered s (.ok (.int (v % 128)))) :=
  respond_eq_answered s (congrArg _ (tc7Encode_ok v h0 h1))

/-- Settles O19: inside and outside each domain. -/
theorem tc7Results : Obligations.Tc7Results := by
  unfold Obligations.Tc7Results
  intro raw v s
  exact ⟨rfl, rfl, respond_eq_answered s (by rw [tc7Decode_eq, map_firstOf]),
    respond_eq_answered s (by rw [tc7Encode_eq, map_firstOf])⟩

/-- Settles O20: the encode is `v % 128`, the decode `signed7`, and each undoes the other. -/
theorem tc7Bijection : Obligations.Tc7Bijection := by
  unfold Obligations.Tc7Bijection
  constructor
  · intro v h0 h1
    refine ⟨v % 128, by omega, by omega, fun s => ⟨exec_tc7Encode s h0 h1, ?_⟩⟩
    rw [exec_tc7Decode s (by omega) (by omega), signed7_emod h0 h1]
  · intro r h0 h1
    obtain ⟨hmin, hmax, hmod⟩ := signed7_range h0 h1
    refine ⟨signed7 r, hmin, hmax, fun s => ⟨exec_tc7Decode s h0 h1, ?_⟩⟩
    rw [exec_tc7Encode s hmin hmax, hmod]

/-- R107's two tests of the difference are tests of the year against the century. -/
theorem yearEncode_eq (y c : Int) :
    yearEncode y c =
      firstOf
        [ (decide (y < c), errText .rangeError .year4digit "year precedes configured century")
        , (decide (c + 100 ≤ y), errText .rangeError .year4digit "year exceeds configured century span") ]
        (y - c) := by
  have hbefore : y - c < 0 ↔ y < c := by omega
  have hbeyond : 100 ≤ y - c ↔ c + 100 ≤ y := by omega
  simp only [yearEncode, hbefore, hbeyond, firstOf_cons, firstOf_nil, decide_eq_true_eq, rangeErrorWith_eq_errText]

theorem exec_yearDecode (y2 c : Int) (s : State) :
    exec (.yearDecode y2 c) s = .next (answered s (.ok (.int (c + y2)))) :=
  respond_eq_answered s rfl

/-- Settles O21: the difference and the sum undo each other. -/
theorem yearResults : Obligations.YearResults := by
  unfold Obligations.YearResults
  intro y2 y c s
  refine ⟨rfl, rfl, exec_yearDecode y2 c s, respond_eq_answered s (by rw [yearEncode_eq, map_firstOf]), fun _ _ => ?_⟩
  rw [exec_yearDecode, add_sub_cancel]

end Sys2Proof.Proofs
end

section
/-! Hours and names (41_primitives.md R108-R111). 12 o'clock is not remapped by HOUR_TO_24 (R109), nor in the two
decodes whose 12-hour reading goes through it (43_time_alarm.md R151, R156). -/

namespace Sys2Proof.Proofs

open Sys2Proof.Machine Sys2Proof.Spec

theorem weekdayName_eq (x : Int) : weekdayName x = weekdayOf x := by
  rw [weekdayName, weekdayOf]
  split
  case isTrue h =>
    obtain ⟨h0, h6⟩ := h
    interval_cases x <;> rfl
  case isFalse h =>
    refine (List.lookup_eq_none_iff.mpr ?_).symm
    simp only [List.forall_mem_cons, bne_iff_ne, List.not_mem_nil, false_imp_iff, implies_true, and_true]
    omega

theorem monthName_eq (x : Int) : monthName x = monthOf x := by
  rw [monthName, monthOf]
  split
  case isTrue h =>
    obtain ⟨h1, h12⟩ := h
    interval_cases x <;> rfl
  case isFalse h =>
    refine (List.lookup_eq_none_iff.mpr ?_).symm
    simp only [List.forall_mem_cons, bne_iff_ne, List.not_mem_nil, false_imp_iff, implies_true, and_true]
    omega

/-- Settles O22: inside each table entry by entry, and outside it no key is the index. -/
theorem nameResults : Obligations.NameResults := by
  unfold Obligations.NameResults
  intro x s
  exact ⟨rfl, rfl, respond_eq_answered s (by rw [weekdayName_eq]), respond_eq_answered s (by rw [monthName_eq])⟩

theorem hourTo24_eq (hour : Int) (pm : Bool) : hourTo24 hour pm = hour24Of hour pm := by
  cases pm
  · exact (add_zero hour).symm
  · rfl

theorem bit_eq_bitAt (b : Byte) (k : Nat) : bit b k = bitAt b k := bit_eq b k

theorem hourField_h12 (b : Byte) : hourField .h12 b = digits b 1 := bcdValue_tens1 b

theorem hourTo24_twelve (pm : Bool) : hourTo24 12 pm = if pm then 24 else 12 := rfl

theorem exec_hourTo24 (hour : Int) (pm : Bool) (s : State) :
    exec (.hourTo24 hour pm) s = .next (answered s (.ok (.int (hour24Of hour pm)))) :=
  respond_eq_answered s (by rw [hourTo24_eq])

/-- Settles O23: HOUR_TO_24 adds 12 to every PM hour, and an hours byte that reads 12 goes through it as it is. -/
theorem twelveOClockIsNotRemapped : Obligations.TwelveOClockIsNotRemapped := by
  unfold Obligations.TwelveOClockIsNotRemapped
  refine ⟨fun hour pm s => ⟨rfl, exec_hourTo24 hour pm s⟩, fun s => ⟨exec_hourTo24 12 false s, exec_hourTo24 12 true s⟩,
    ?alarmHour, ?time⟩
  case alarmHour =>
    intro h rest s htwelve
    have hlen : 1 ≤ (h :: rest).length := by simp
    refine ⟨alarmHourFields .h12 h, respond_eq_answered s (congrArg _ (needLength_ok hlen)), ?_, ?_⟩
    · exact (hourField_h12 h).trans htwelve
    · simp only [alarmHourFields, hourField_h12, htwelve, hourTo24_twelve, bit_eq_bitAt]
  case time =>
    intro b0 b1 h b3 b4 b5 b6 rest century s htwelve
    have hlen : lenTime ≤ (b0 :: b1 :: h :: b3 :: b4 :: b5 :: b6 :: rest).length := by simp [lenTime]
    refine ⟨_, respond_eq_answered s (congrArg _ (needLength_ok hlen)), ?_, ?_⟩
    · exact (hourField_h12 h).trans htwelve
    · have hbyte : byteAt (b0 :: b1 :: h :: b3 :: b4 :: b5 :: b6 :: rest) 2 = h := rfl
      simp only [timeFields, hbyte, hourField_h12, htwelve, hourTo24_twelve, bit_eq_bitAt]

end Sys2Proof.Proofs
end

section
/-! Register bytes as the statements write them: a Bool at bit `k` is a multiple of `2 ^ k`, a one-byte encode answers
the one byte it packs, and a decode of a one-byte group reads the first byte and ignores the rest
(92_eei_decisions.md D19). -/

namespace Sys2Proof.Proofs

open Sys2Proof.Machine Sys2Proof.Spec

theorem flag_eq_mul_boolInt (x : Bool) (k : Nat) : (flag x k : Int) = 2 ^ k * boolInt x := by
  cases x <;> simp [flag, boolInt]

theorem ofInt_natCast_eq_byteOf (n : Nat) : BitVec.ofInt 8 n = byteOf n := BitVec.ofInt_natCast 8 n

/-- Packed to the integer `v`, a register is written as the byte of any number equal to `v`. -/
theorem oneByte_ok_ofInt {r : Except BlockError Byte} {v : Int} {n : Nat} (hr : r = .ok (BitVec.ofInt 8 v))
    (hv : (n : Int) = v) : oneByte r = .ok [byteOf n] := by
  rw [hr, ← hv, ofInt_natCast_eq_byteOf]
  rfl

theorem lengthError_eq_tooShort (need got : Nat) : lengthError need got = tooShort need got := rfl

theorem map_needLength_one {α : Type} (buf : Buf) (f : Byte → α) (g : α → Value) :
    (needLength 1 buf (f (byteAt buf 0))).map g = decoded1 buf fun b => g (f b) := by
  cases buf with
  | nil => rfl
  | cons b rest => rw [needLength_ok (by simp)]; rfl

end Sys2Proof.Proofs
end

section
/-! The control registers (42_control.md R130-R137): the fields of each byte, the byte each encode packs, and the power
modes of R136, whose three code bits are bits 7:5 of Control3. -/

namespace Sys2Proof.Proofs

open Sys2Proof.Machine Sys2Proof.Spec

/-! ## Decodes -/

theorem control1Fields_eq (b : Byte) : control1Fields b = control1Of b := by
  simp only [control1Fields, control1Of, bit_eq_bitAt]

theorem control2Fields_eq (b : Byte) : control2Fields b = control2Of b := by
  simp only [control2Fields, control2Of, bit_eq_bitAt]

/-- The table of R136 bit by bit: bit 2 is not BLD, bit 1 is not SO, and bit 0 is DS while switch-over is enabled. -/
theorem powerOf_eq_bits {code : Nat} (h : code < 8) :
    powerOf code = (!(code / 4 % 2 == 1), !(code / 2 % 2 == 1),
      if !(code / 2 % 2 == 1) then some (code % 2 == 1) else none) := by
  interval_cases code <;> rfl

/-- Bits 7:5 of a byte are the bits of its power-mode code. -/
theorem bitAt_eq_code_bit (b : Byte) (k : Nat) : bitAt b (5 + k) = (b.toNat / 32 / 2 ^ k % 2 == 1) := by
  rw [bitAt, pow_add, Nat.div_div_eq_div_mul]
  rfl

theorem control3Fields_eq (b : Byte) : control3Fields b = control3Of b := by
  have hcode : b.toNat / 32 < 8 := Nat.div_lt_of_lt_mul b.isLt
  have h7 : bitAt b 7 = (b.toNat / 32 / 4 % 2 == 1) := bitAt_eq_code_bit b 2
  have h6 : bitAt b 6 = (b.toNat / 32 / 2 % 2 == 1) := bitAt_eq_code_bit b 1
  have h5 : bitAt b 5 = (b.toNat / 32 % 2 == 1) := by simpa using bitAt_eq_code_bit b 0
  simp only [control3Fields, control3Of, bit_eq_bitAt, powerOf_eq_bits hcode, h7, h6, h5]

theorem map_profileDecode (buf : Buf) : (profileDecode buf).map .profile = profileOf buf := by
  match buf with
  | b0 :: b1 :: b2 :: rest =>
    rw [profileDecode, needLength_ok (by simp [lenProfile]), control1Fields_eq, control2Fields_eq, control3Fields_eq]
    rfl
  | [] | [_] | [_, _] =>
    rw [profileDecode, needLength_short (by simp [lenProfile]), lengthError_eq_tooShort]
    rfl

/-! ## Encodes -/

theorem control1Encode_eq (c : Control1In) : control1Encode c = control1Bytes c := by
  obtain ⟨cap, stop, twelve, si, ai, ci⟩ := c
  cases cap with
  | cap7pF =>
    refine oneByte_ok_ofInt (bitsPack_control1 0 (.inl rfl) stop twelve si ai ci) ?_
    push_cast [flag_eq_mul_boolInt]
    ring
  | cap12_5pF =>
    refine oneByte_ok_ofInt (bitsPack_control1 1 (.inr rfl) stop twelve si ai ci) ?_
    push_cast [flag_eq_mul_boolInt]
    ring
  | other _ => rfl

theorem control2Encode_eq (c : Control2In) : control2Encode c = control2Bytes c := by
  refine oneByte_ok_ofInt (bitsPack_control2 ..) ?_
  push_cast [flag_eq_mul_boolInt, keep]
  ring

theorem powerMode_eq_powerCode (bld so ds : Bool) : powerMode bld so ds = powerCode bld so ds := by
  cases bld <;> cases so <;> cases ds <;> rfl

theorem control3Encode_eq (c : Control3In) : control3Encode c = control3Bytes c := by
  have hpm := powerMode_eq_powerCode c.pmBatteryLowDetectionEnabled c.pmSwitchoverEnabled c.pmDirectSwitchingEnabled
  unfold control3Encode control3Bytes
  refine if_ctx_congr (by rw [hpm]; norm_cast) (fun _ => rfl) fun _ => ?_
  refine oneByte_ok_ofInt (bitsPack_control3 ..) ?_
  push_cast [flag_eq_mul_boolInt, keep, hpm]
  ring

/-! ## The operations -/

/-- Settles O24: bit by bit, and the pack list of Control1 for each capacitor selection. -/
theorem control1Results : Obligations.Control1Results := by
  unfold Obligations.Control1Results
  intro buf c s
  refine ⟨rfl, rfl, respond_eq_answered s ?_, respond_eq_answered s (by rw [control1Encode_eq])⟩
  simp only [control1Decode, map_needLength_one, control1Fields_eq]

/-- Settles O25: bit by bit, and the pack list of Control2. -/
theorem control2Results : Obligations.Control2Results := by
  unfold Obligations.Control2Results
  intro buf c s
  refine ⟨rfl, rfl, respond_eq_answered s ?_, respond_eq_answered s (by rw [control2Encode_eq]), fun _ => rfl⟩
  simp only [control2Decode, map_needLength_one, control2Fields_eq]

/-- Settles O26: the table of R136 read bit by bit, and the pack list of Control3 at its power-mode code. -/
theorem control3Results : Obligations.Control3Results := by
  unfold Obligations.Control3Results
  intro buf c s
  refine ⟨rfl, rfl, respond_eq_answered s ?_, respond_eq_answered s (by rw [control3Encode_eq]), fun _ => rfl⟩
  simp only [control3Decode, map_needLength_one, control3Fields_eq]

/-- Settles O27: three bytes or more are the three registers' decodes, fewer are too short. -/
theorem profileDecodeResult : Obligations.ProfileDecodeResult := by
  unfold Obligations.ProfileDecodeResult
  intro buf s
  exact ⟨rfl, respond_eq_answered s (map_profileDecode buf)⟩

end Sys2Proof.Proofs
end

section
/-! Encodes that run a list of checks (60_exceptions.md R240, 43_time_alarm.md R163): what a chain of tests, and one
list of checks after another, answer; and the result of an encode read back from the response it made. -/

namespace Sys2Proof.Proofs

open Sys2Proof.Machine Sys2Proof.Spec

variable {α β : Type}

/-- One test of the machine is one check; past it, the check is known to pass. -/
theorem ite_eq_firstOf_cons {c c' : Bool} {e : BlockError} {rest : List (Bool × BlockError)} {r : Except BlockError α}
    {a : α} (hc : c = c') (h : c' = false → r = firstOf rest a) :
    (if c then .error e else r) = firstOf ((c', e) :: rest) a := by
  subst hc
  cases c with
  | true => rfl
  | false => exact h rfl

/-- The checks of a second encode follow those of the first, and are run when those have passed. -/
theorem bind_firstOf {checks checks' : List (Bool × BlockError)} {a : α} {b : β} {f : α → Except BlockError β}
    (h : (∀ c ∈ checks, c.1 = false) → f a = firstOf checks' b) :
    (firstOf checks a >>= f) = firstOf (checks ++ checks') b := by
  induction checks with
  | nil => exact h (by simp)
  | cons check rest ih =>
    obtain ⟨_ | _, e⟩ := check
    · exact ih fun hrest => h (List.forall_mem_cons.mpr ⟨rfl, hrest⟩)
    · rfl

theorem firstOf_eq_ok_iff {checks : List (Bool × BlockError)} {a b : α} :
    firstOf checks a = .ok b ↔ (∀ c ∈ checks, c.1 = false) ∧ a = b := by
  induction checks with
  | nil => simp [firstOf_nil]
  | cons check rest ih =>
    obtain ⟨_ | _, e⟩ := check
    · simp [firstOf_cons, ih]
    · simp [firstOf_cons]

/-- The next state tells a result from an error by the program index, and shows the result at the trace's end. -/
theorem eq_ok_of_answer_eq_complete {s : State} {r : Except BlockError Value} {v : Value}
    (h : s.answer r = s.complete v) : r = .ok v := by
  cases r with
  | ok w =>
    have htrace : s.trace ++ [w] = s.trace ++ [v] := congrArg State.trace h
    rw [List.singleton_inj.mp (List.append_cancel_left htrace)]
  | error e =>
    have hpc : s.pc = s.pc + 1 := congrArg State.pc h
    omega

/-- An encode that answered a buffer returned it. -/
theorem eq_ok_of_respond_buf {s : State} {r : Except BlockError Buf} {v : Buf}
    (h : respond s (r.map Value.buf) = .next (answered s (.ok (.buf v)))) : r = .ok v := by
  have hok : r.map Value.buf = .ok (.buf v) := eq_ok_of_answer_eq_complete (respond_next.mp h).symm
  cases r with
  | ok w => cases hok; rfl
  | error e => cases hok

theorem out_eq_false_iff {v lo hi : Int} : out v lo hi = false ↔ lo ≤ v ∧ v ≤ hi := by
  rw [out, decide_eq_false_iff_not]
  omega

end Sys2Proof.Proofs
end

section
/-! Register bytes written as sums and read back: a Bool at bit `k` and a BCD number below it, each with anything that
stands above it in the byte. -/

namespace Sys2Proof.Proofs

open Sys2Proof.Machine Sys2Proof.Spec

variable {n k : Nat} {v : Int}

/-! ## Written -/

/-- A Bool joined to a number that lies below its bit. -/
theorem boolByte_shiftLeft_or_byteOf (x : Bool) (hk : k < 8) (hn : n < 2 ^ k) :
    boolByte x <<< k ||| byteOf n = byteOf (flag x k + n) := by
  cases x with
  | false => simp [boolByte, flag]
  | true =>
    have hpow : 2 ^ k < 2 ^ 8 := Nat.pow_lt_pow_right Nat.one_lt_two hk
    have hbit : (1 : Byte) <<< k = byteOf (2 ^ k) := by
      refine BitVec.eq_of_toNat_eq ?_
      simp [byteOf, Nat.shiftLeft_eq]
    have hsum : 2 ^ k + n = 2 ^ k ||| n := by
      simpa using Nat.two_pow_add_eq_or_of_lt hn 1
    simp only [boolByte, flag, if_true, hbit, hsum]
    exact (BitVec.ofNat_or ..).symm

/-- R155: an alarm's enable bit, active low, over its value bits. -/
theorem alarmEnableBits_or_byteOf (enabled : Bool) (hn : n < 128) :
    alarmEnableBits enabled ||| byteOf n = byteOf (flag (!enabled) 7 + n) :=
  boolByte_shiftLeft_or_byteOf (!enabled) (by decide) hn

theorem ofInt_eq_byteOf_toNat (h0 : 0 ≤ v) : BitVec.ofInt 8 v = byteOf v.toNat := by
  rw [← ofInt_natCast_eq_byteOf, Int.toNat_of_nonneg h0]

theorem bcdByte_eq_byteOf (v : Int) : bcdByte v = byteOf (bcd2 v) := rfl

theorem bcd2_lt_128 (hv : v ≤ 79) : bcd2 v < 128 := by
  rw [bcd2]
  omega

/-! ## Read back -/

/-- Bit `k` of a byte whose bits above it are a multiple of `2 ^ (k + 1)`. -/
theorem bitAt_byteOf_flag {m : Nat} (x : Bool) (hk : k < 8) (hm : 2 ^ (k + 1) ∣ m) (hn : n < 2 ^ k) :
    bitAt (byteOf (m + (flag x k + n))) k = x := by
  obtain ⟨c, rfl⟩ := hm
  have hsum : 2 ^ (k + 1) * c + (flag x k + n) = 2 ^ k * (2 * c + if x then 1 else 0) + n := by
    cases x <;> simp only [flag, if_true, if_false, Bool.false_eq_true] <;> ring
  rw [bitAt_eq_testBit, byteOf, BitVec.toNat_ofNat, Nat.testBit_mod_two_pow, decide_eq_true hk, hsum,
    Nat.testBit_two_pow_mul_add _ hn]
  cases x <;> simp

theorem bitAt_byteOf_of_lt (hk : k < 8) (hn : n < 2 ^ k) : bitAt (byteOf n) k = false := by
  simpa [flag] using bitAt_byteOf_flag false hk (Nat.dvd_zero _) hn

/-- The BCD number in the low `4 + w` bits of a byte. -/
theorem digits_byteOf_add_bcd2 {m w : Nat} (hw : w ≤ 4) (hm : 2 ^ (4 + w) ∣ m) (h0 : 0 ≤ v) (hv : v < 10 * 2 ^ w) :
    digits (byteOf (m + bcd2 v)) w = v := by
  obtain ⟨c, rfl⟩ := hm
  simp only [digits, field, byteOf, bcd2, BitVec.toNat_ofNat]
  interval_cases w <;> omega

theorem digits_byteOf_bcd2 {w : Nat} (hw : w ≤ 4) (h0 : 0 ≤ v) (hv : v < 10 * 2 ^ w) :
    digits (byteOf (bcd2 v)) w = v := by
  simpa using digits_byteOf_add_bcd2 hw (Nat.dvd_zero _) h0 hv

/-- The binary number in the low `w` bits of a byte. -/
theorem field_byteOf_add_toNat {m w : Nat} (hw : w ≤ 8) (hm : 2 ^ w ∣ m) (h0 : 0 ≤ v) (hv : v < 2 ^ w) :
    field (byteOf (m + v.toNat)) 0 w = v := by
  obtain ⟨c, rfl⟩ := hm
  have hlt : v.toNat < 2 ^ w := (Int.toNat_lt h0).mpr (by exact_mod_cast hv)
  rw [field, byteOf, BitVec.toNat_ofNat, pow_zero, Nat.div_one, Nat.mod_mod_of_dvd _ (Nat.pow_dvd_pow 2 hw),
    Nat.mul_add_mod, Nat.mod_eq_of_lt hlt, Int.toNat_of_nonneg h0]

end Sys2Proof.Proofs
end

section
/-! The parts that time and alarm registers share (43_time_alarm.md R150-R164): the domain checks, and the hours byte in
the layout of the mode. -/

namespace Sys2Proof.Proofs

open Sys2Proof.Machine Sys2Proof.Spec

variable {mode : HourMode} {hour : Int} {pm : Option Bool}

/-! ## Checks -/

theorem outside_eq_out (v lo hi : Int) : outside v lo hi = out v lo hi := (Bool.decide_or ..).symm

theorem hourOutside_eq_hourBad (mode : HourMode) (hour : Int) : hourOutside mode hour = hourBad mode hour := by
  cases mode <;> exact outside_eq_out ..

theorem pmMissing_eq_pmAbsent (mode : HourMode) (pm : Option Bool) : pmMissing mode pm = pmAbsent mode pm := by
  cases mode <;> cases pm <;> rfl

/-! ## The hours byte -/

theorem hourField_eq_hourOf (mode : HourMode) (b : Byte) : hourField mode b = hourOf mode b := by
  cases mode with
  | h24 => exact bcdValue_tens2 b
  | h12 => exact bcdValue_tens1 b

/-- Within the hour's domain its digits fit the layout of the mode. -/
theorem hourEncode_ok (pm : Option Bool) (h : hourBad mode hour = false) :
    hourEncode mode hour pm = .ok (byteOf (hourNum mode hour pm)) := by
  cases mode with
  | h24 =>
    obtain ⟨h0, h23⟩ := out_eq_false_iff.mp h
    exact bcdEncode_tens2 hour h0 (by omega)
  | h12 =>
    obtain ⟨h1, h12⟩ := out_eq_false_iff.mp h
    have hlow : bcd2 hour < 2 ^ 5 := by rw [bcd2]; omega
    have hjoin := boolByte_shiftLeft_or_byteOf (decide (pm = some true)) (by decide) hlow
    simp only [hourEncode, bcdEncode_tens1 hour (by omega) (by omega), bcdByte_eq_byteOf, Except.map, hjoin, hourNum]

/-- The hours byte leaves bit 7 free for an alarm's enable. -/
theorem hourNum_lt_128 (pm : Option Bool) (h : hourBad mode hour = false) : hourNum mode hour pm < 128 := by
  cases mode with
  | h24 =>
    obtain ⟨-, h23⟩ := out_eq_false_iff.mp h
    exact bcd2_lt_128 (by omega)
  | h12 =>
    obtain ⟨-, h12⟩ := out_eq_false_iff.mp h
    have hflag : flag (decide (pm = some true)) 5 ≤ 32 := by cases decide (pm = some true) <;> decide
    rw [hourNum, bcd2]
    omega

theorem hourOf_byteOf_add_hourNum {m : Nat} (pm : Option Bool) (hm : 128 ∣ m) (h : hourBad mode hour = false) :
    hourOf mode (byteOf (m + hourNum mode hour pm)) = hour := by
  cases mode with
  | h24 =>
    obtain ⟨h0, h23⟩ := out_eq_false_iff.mp h
    exact digits_byteOf_add_bcd2 (by decide) (.trans (by decide) hm) h0 (by omega)
  | h12 =>
    obtain ⟨h1, h12⟩ := out_eq_false_iff.mp h
    have hpm : 2 ^ (4 + 1) ∣ flag (decide (pm = some true)) 5 := by cases decide (pm = some true) <;> decide
    rw [hourNum, ← Nat.add_assoc]
    exact digits_byteOf_add_bcd2 (by decide) (Nat.dvd_add (.trans (by decide) hm) hpm) (by omega) (by omega)

/-- In 12-hour mode bit 5 is the PM bit. -/
theorem bitAt_five_byteOf_add_hourNum {m : Nat} (pm : Option Bool) (hm : 128 ∣ m) (h : hourBad .h12 hour = false) :
    bitAt (byteOf (m + hourNum .h12 hour pm)) 5 = decide (pm = some true) := by
  obtain ⟨h1, h12⟩ := out_eq_false_iff.mp h
  exact bitAt_byteOf_flag _ (by decide) (.trans (by decide) hm) (by rw [bcd2]; omega)

theorem bitAt_five_byteOf_hourNum (pm : Option Bool) (h : hourBad .h12 hour = false) :
    bitAt (byteOf (hourNum .h12 hour pm)) 5 = decide (pm = some true) := by
  simpa using bitAt_five_byteOf_add_hourNum pm (Nat.dvd_zero 128) h

/-- A PM flag that is given is read back from its bit. -/
theorem some_decide_eq_of_pmAbsent (h : pmAbsent .h12 pm = false) : some (decide (pm = some true)) = pm := by
  match pm with
  | none => cases h
  | some true | some false => rfl

end Sys2Proof.Proofs
end

section
/-! Time (43_time_alarm.md R151-R153): the seven bytes of TIME_ENCODE, the twelve fields of TIME_DECODE, and the round
trip field by field. -/

namespace Sys2Proof.Proofs

open Sys2Proof.Machine Sys2Proof.Spec

/-! ## Decode -/

theorem integrityFlag_eq (b : Byte) : integrityFlag b = !bitAt b 7 := by
  rw [integrityFlag, bit_eq_bitAt]

theorem ext_weekday_eq_field (b : Byte) : ext b ⟨2, 3⟩ = field b 0 3 := ext_eq b ⟨2, 3⟩

theorem pmField_eq (mode : HourMode) (b : Byte) :
    pmField mode b = if mode = .h12 then some (bitAt b 5) else none := by
  cases mode with
  | h24 => rfl
  | h12 => exact congrArg some (bit_eq_bitAt b 5)

theorem map_timeDecode (buf : Buf) (mode : HourMode) (century : Int) :
    (timeDecode buf mode century).map .time = timeOf buf mode century := by
  match buf with
  | sec :: min :: hr :: day :: wd :: mon :: yr :: rest =>
    rw [timeDecode, needLength_ok (by simp [lenTime])]
    simp only [timeFields, byteAt, List.getD_cons_zero, List.getD_cons_succ, integrityFlag_eq, ext_weekday_eq_field,
      bcdValue_tens1, bcdValue_tens2, bcdValue_tens3, bcdValue_tens4, hourField_eq_hourOf, pmField_eq, weekdayName_eq,
      monthName_eq, hourTo24_eq, bit_eq_bitAt, yearDecode]
    cases mode <;> rfl
  | [] | [_] | [_, _] | [_, _, _] | [_, _, _, _] | [_, _, _, _, _] | [_, _, _, _, _, _] =>
    rw [timeDecode, needLength_short (by simp [lenTime]), lengthError_eq_tooShort]
    rfl

/-! ## Encode -/

/-- R152: past the checks every digit fits its field. -/
theorem timeBytes_ok {t : TimeIn} {mode : HourMode} {y2 : Int} (hsecond : out t.second 0 59 = false)
    (hminute : out t.minute 0 59 = false) (hhour : hourBad mode t.hour = false) (hday : out t.day 1 31 = false)
    (hweekday : out t.weekdayValue 0 6 = false) (hmonth : out t.monthsValue 1 12 = false) (h0 : 0 ≤ y2)
    (h99 : y2 ≤ 99) :
    timeBytes t mode y2 = .ok
      [ byteOf (bcd2 t.second), byteOf (bcd2 t.minute), byteOf (hourNum mode t.hour t.pm), byteOf (bcd2 t.day)
      , byteOf t.weekdayValue.toNat, byteOf (bcd2 t.monthsValue), byteOf (bcd2 y2) ] := by
  rw [out_eq_false_iff] at hsecond hminute hday hweekday hmonth
  obtain ⟨hs0, hs1⟩ := hsecond
  obtain ⟨hn0, hn1⟩ := hminute
  obtain ⟨hw0, -⟩ := hweekday
  have hsb := bcdEncode_tens3 t.second hs0 (by omega)
  have hnb := bcdEncode_tens3 t.minute hn0 (by omega)
  have hdb := bcdEncode_tens2 t.day (by omega) (by omega)
  have hmb := bcdEncode_tens1 t.monthsValue (by omega) (by omega)
  have hwb := ofInt_eq_byteOf_toNat hw0
  simp only [timeBytes, hourEncode_ok t.pm hhour, hsb, hnb, hdb, hmb, bcdEncode_tens4 y2 h0 h99, hwb]
  rfl

theorem timeEncode_eq (t : TimeIn) (mode : HourMode) (century : Int) :
    timeEncode t mode century = timeGroupBytes t mode century := by
  refine ite_eq_firstOf_cons (outside_eq_out ..) fun hsecond => ?_
  refine ite_eq_firstOf_cons (outside_eq_out ..) fun hminute => ?_
  refine ite_eq_firstOf_cons (pmMissing_eq_pmAbsent ..) fun _ => ?_
  refine ite_eq_firstOf_cons (hourOutside_eq_hourBad ..) fun hhour => ?_
  refine ite_eq_firstOf_cons (outside_eq_out ..) fun hday => ?_
  refine ite_eq_firstOf_cons (outside_eq_out ..) fun hweekday => ?_
  refine ite_eq_firstOf_cons (outside_eq_out ..) fun hmonth => ?_
  simp only [yearEncode_eq, firstOf_cons, firstOf_nil, decide_eq_true_eq]
  split_ifs with hbefore hbeyond
  · rfl
  · rfl
  · exact timeBytes_ok hsecond hminute hhour hday hweekday hmonth (by omega) (by omega)

/-! ## The operations -/

/-- Settles O28: each field of the seven bytes, and every shorter buffer is too short. -/
theorem timeDecodeResult : Obligations.TimeDecodeResult := by
  unfold Obligations.TimeDecodeResult
  intro buf mode century s
  exact ⟨rfl, respond_eq_answered s (map_timeDecode buf mode century)⟩

/-- Settles O29: the machine's checks are the statement's in their order, and past them the seven bytes are encoded. -/
theorem timeEncodeResult : Obligations.TimeEncodeResult := by
  unfold Obligations.TimeEncodeResult
  intro t mode century s
  exact ⟨rfl, respond_eq_answered s (by rw [timeEncode_eq])⟩

/-- Settles O30: an accepted time has passed the checks, so each byte reads back the number it was written from. -/
theorem timeRoundTrip : Obligations.TimeRoundTrip := by
  unfold Obligations.TimeRoundTrip
  intro t mode century s v h
  have hok : timeGroupBytes t mode century = .ok v := (timeEncode_eq t mode century).symm.trans (eq_ok_of_respond_buf h)
  obtain ⟨hchecks, rfl⟩ := firstOf_eq_ok_iff.mp hok
  simp only [List.forall_mem_cons, out_eq_false_iff, decide_eq_false_iff_not] at hchecks
  obtain ⟨⟨hs0, hs1⟩, ⟨hn0, hn1⟩, hpm, hhour, ⟨hd0, hd1⟩, ⟨hw0, hw1⟩, ⟨hm0, hm1⟩, hy0, hy1, -⟩ := hchecks
  have hhourField := hourOf_byteOf_add_hourNum t.pm (Nat.dvd_zero 128) hhour
  have hweekdayField := field_byteOf_add_toNat (w := 3) (by decide) (Nat.dvd_zero _) hw0 (by omega)
  rw [Nat.zero_add] at hhourField hweekdayField
  have hyearDigits := digits_byteOf_bcd2 (v := t.year4digit - century) (w := 4) (by decide) (by omega) (by omega)
  have hsecondBit := bitAt_byteOf_of_lt (k := 7) (by decide) (bcd2_lt_128 (v := t.second) (by omega))
  refine ⟨_, fun s' => respond_eq_answered s' (map_timeDecode ..), digits_byteOf_bcd2 (by decide) hs0 (by omega),
    digits_byteOf_bcd2 (by decide) hn0 (by omega), hhourField, digits_byteOf_bcd2 (by decide) (by omega) (by omega),
    hweekdayField, digits_byteOf_bcd2 (by decide) (by omega) (by omega), ?year, ?integrity, ?pm, ?hour24⟩
  case year => simp only [hyearDigits, add_sub_cancel]
  case integrity => simp only [hsecondBit, Bool.not_false]
  case pm =>
    cases mode with
    | h24 => rfl
    | h12 => exact (congrArg some (bitAt_five_byteOf_hourNum t.pm hhour)).trans (some_decide_eq_of_pmAbsent hpm)
  case hour24 =>
    cases mode with
    | h24 => exact hhourField
    | h12 => simp only [if_true, hhourField, bitAt_five_byteOf_hourNum t.pm hhour]

end Sys2Proof.Proofs
end

section
/-! Alarm registers (43_time_alarm.md R154-R164): each register's byte has its enable at bit 7, active low, over its value
bits, and the group is the four registers one after another. -/

namespace Sys2Proof.Proofs

open Sys2Proof.Machine Sys2Proof.Spec

/-! ## Decodes -/

theorem alarmEnabled_eq (b : Byte) : alarmEnabled b = !bitAt b 7 := by
  rw [alarmEnabled, bit_eq_bitAt]

theorem alarmMinuteFields_eq (b : Byte) : alarmMinuteFields b = alarmMinuteOf b := by
  rw [alarmMinuteFields, bcdValue_tens3, alarmEnabled_eq]
  rfl

theorem alarmHourFields_eq (mode : HourMode) (b : Byte) : alarmHourFields mode b = alarmHourOf mode b := by
  simp only [alarmHourFields, hourField_eq_hourOf, alarmEnabled_eq, pmField_eq, hourTo24_eq, bit_eq_bitAt]
  cases mode <;> rfl

theorem alarmDayFields_eq (b : Byte) : alarmDayFields b = alarmDayOf b := by
  rw [alarmDayFields, bcdValue_tens2, alarmEnabled_eq]
  rfl

theorem alarmWeekdayFields_eq (b : Byte) : alarmWeekdayFields b = alarmWeekdayOf b := by
  rw [alarmWeekdayFields, ext_weekday_eq_field, alarmEnabled_eq]
  rfl

theorem hour_alarmHourOf (mode : HourMode) (b : Byte) : (alarmHourOf mode b).hour = hourOf mode b := by
  cases mode <;> rfl

theorem map_alarmDecode (buf : Buf) (mode : HourMode) : (alarmDecode buf mode).map .alarm = alarmOf buf mode := by
  match buf with
  | m :: h :: d :: w :: rest =>
    rw [alarmDecode, needLength_ok (by simp [lenAlarm])]
    simp only [alarmFields, alarmMinuteFields_eq, alarmHourFields_eq, alarmDayFields_eq, alarmWeekdayFields_eq]
    cases mode <;> rfl
  | [] | [_] | [_, _] | [_, _, _] =>
    rw [alarmDecode, needLength_short (by simp [lenAlarm]), lengthError_eq_tooShort]
    rfl

/-! ## Encodes -/

/-- A register's value bits `n`, joined to its enable. -/
theorem oneByte_alarmEnableBits {r : Except BlockError Byte} {n : Nat} (enabled : Bool) (hr : r = .ok (byteOf n))
    (hn : n < 128) :
    oneByte (r.map fun e => alarmEnableBits enabled ||| e) = .ok [byteOf (flag (!enabled) 7 + n)] := by
  rw [hr, ← alarmEnableBits_or_byteOf enabled hn]
  rfl

theorem alarmMinuteEncode_eq (a : AlarmMinuteIn) : alarmMinuteEncode a = alarmMinuteBytes a := by
  refine ite_eq_firstOf_cons (outside_eq_out ..) fun h => ?_
  obtain ⟨h0, h59⟩ := out_eq_false_iff.mp h
  exact oneByte_alarmEnableBits _ (bcdEncode_tens3 a.minute h0 (by omega)) (bcd2_lt_128 (by omega))

theorem alarmHourEncode_eq (a : AlarmHourIn) (mode : HourMode) : alarmHourEncode a mode = alarmHourBytes a mode := by
  refine ite_eq_firstOf_cons (pmMissing_eq_pmAbsent ..) fun _ => ?_
  refine ite_eq_firstOf_cons (hourOutside_eq_hourBad ..) fun h => ?_
  exact oneByte_alarmEnableBits _ (hourEncode_ok a.pm h) (hourNum_lt_128 a.pm h)

theorem alarmDayEncode_eq (a : AlarmDayIn) : alarmDayEncode a = alarmDayBytes a := by
  refine ite_eq_firstOf_cons (outside_eq_out ..) fun h => ?_
  obtain ⟨h1, h31⟩ := out_eq_false_iff.mp h
  exact oneByte_alarmEnableBits _ (bcdEncode_tens2 a.day (by omega) (by omega)) (bcd2_lt_128 (by omega))

theorem alarmWeekdayEncode_eq (a : AlarmWeekdayIn) : alarmWeekdayEncode a = alarmWeekdayBytes a := by
  refine ite_eq_firstOf_cons (outside_eq_out ..) fun h => ?_
  obtain ⟨h0, h6⟩ := out_eq_false_iff.mp h
  rw [ofInt_eq_byteOf_toNat h0, alarmEnableBits_or_byteOf _ (by omega), firstOf_nil]

/-- R163: the four registers' checks one after another, then their four bytes. -/
theorem alarmEncode_eq (a : AlarmIn) (mode : HourMode) : alarmEncode a mode = alarmBytes a mode := by
  rw [alarmEncode, alarmMinuteEncode_eq, alarmHourEncode_eq, alarmDayEncode_eq, alarmWeekdayEncode_eq]
  refine bind_firstOf fun _ => ?hour
  refine bind_firstOf fun _ => ?day
  refine bind_firstOf fun _ => ?weekday
  exact bind_firstOf (checks' := []) fun _ => rfl

/-! ## The operations -/

/-- Settles O31: the byte's two fields, and BCD under the enable. -/
theorem alarmMinuteResults : Obligations.AlarmMinuteResults := by
  unfold Obligations.AlarmMinuteResults
  intro buf a s
  refine ⟨rfl, rfl, respond_eq_answered s ?_, respond_eq_answered s (by rw [alarmMinuteEncode_eq]), fun _ => rfl⟩
  simp only [alarmMinuteDecode, map_needLength_one, alarmMinuteFields_eq]

/-- Settles O32: the byte's fields in the layout of the mode, and the two checks before the hours byte. -/
theorem alarmHourResults : Obligations.AlarmHourResults := by
  unfold Obligations.AlarmHourResults
  intro buf a mode s
  refine ⟨rfl, rfl, respond_eq_answered s ?_, respond_eq_answered s (by rw [alarmHourEncode_eq]), fun _ => rfl⟩
  simp only [alarmHourDecode, map_needLength_one, alarmHourFields_eq]

/-- Settles O33: each byte's two fields, and BCD or the weekday's number under the enable. -/
theorem alarmDayAndWeekdayResults : Obligations.AlarmDayAndWeekdayResults := by
  unfold Obligations.AlarmDayAndWeekdayResults
  intro buf a w s
  refine ⟨rfl, rfl, rfl, rfl, respond_eq_answered s ?day, respond_eq_answered s (by rw [alarmDayEncode_eq]),
    respond_eq_answered s ?weekday, respond_eq_answered s (by rw [alarmWeekdayEncode_eq]), fun _ => rfl, fun _ => rfl⟩
  case day => simp only [alarmDayDecode, map_needLength_one, alarmDayFields_eq]
  case weekday => simp only [alarmWeekdayDecode, map_needLength_one, alarmWeekdayFields_eq]

/-- Settles O34: the four registers' decodes and encodes. -/
theorem alarmGroupResults : Obligations.AlarmGroupResults := by
  unfold Obligations.AlarmGroupResults
  intro buf a mode s
  exact ⟨rfl, rfl, respond_eq_answered s (map_alarmDecode buf mode), respond_eq_answered s (by rw [alarmEncode_eq]),
    fun _ => rfl⟩

/-! ## The round trip -/

theorem dvd_flag_seven (x : Bool) : 128 ∣ flag x 7 := by
  cases x <;> decide

/-- Bit 7 over the value bits is the enable, active low. -/
theorem enabled_byteOf_flag {n : Nat} (enabled : Bool) (hn : n < 128) :
    (!bitAt (byteOf (flag (!enabled) 7 + n)) 7) = enabled := by
  have hbit := bitAt_byteOf_flag (!enabled) (k := 7) (by decide) (Nat.dvd_zero _) hn
  rw [Nat.zero_add] at hbit
  rw [hbit, Bool.not_not]

/-- The value bits under an enable are read as BCD, whatever the enable. -/
theorem digits_byteOf_flag_add_bcd2 {v : Int} {w : Nat} (x : Bool) (hw : w ≤ 3) (h0 : 0 ≤ v) (hv : v < 10 * 2 ^ w) :
    digits (byteOf (flag x 7 + bcd2 v)) w = v :=
  digits_byteOf_add_bcd2 (hw.trans (by decide)) ((Nat.pow_dvd_pow 2 (Nat.add_le_add_left hw 4)).trans (dvd_flag_seven x))
    h0 hv

/-- Settles O35: an accepted alarm has passed the checks, so each byte reads back its number and its enable. -/
theorem alarmRoundTrip : Obligations.AlarmRoundTrip := by
  unfold Obligations.AlarmRoundTrip
  intro a mode s v h
  have hok : alarmBytes a mode = .ok v := (alarmEncode_eq a mode).symm.trans (eq_ok_of_respond_buf h)
  obtain ⟨hchecks, rfl⟩ := firstOf_eq_ok_iff.mp hok
  simp only [List.forall_mem_cons, out_eq_false_iff] at hchecks
  obtain ⟨⟨hm0, hm1⟩, hpm, hhour, ⟨hd0, hd1⟩, ⟨hw0, hw1⟩, -⟩ := hchecks
  have hflagHour := dvd_flag_seven (!a.hourEnabled)
  have hflagWeekday : 2 ^ 3 ∣ flag (!a.weekdayEnabled) 7 := .trans (by decide) (dvd_flag_seven _)
  refine ⟨_, fun s' => respond_eq_answered s' (map_alarmDecode ..),
    digits_byteOf_flag_add_bcd2 _ (by decide) hm0 (by omega), enabled_byteOf_flag _ (bcd2_lt_128 (by omega)), ?hour,
    enabled_byteOf_flag _ (hourNum_lt_128 a.pm hhour), digits_byteOf_flag_add_bcd2 _ (by decide) (by omega) (by omega),
    enabled_byteOf_flag _ (bcd2_lt_128 (by omega)), field_byteOf_add_toNat (by decide) hflagWeekday hw0 (by omega),
    enabled_byteOf_flag _ (by omega), ?pm⟩
  case hour => exact (hour_alarmHourOf ..).trans (hourOf_byteOf_add_hourNum a.pm hflagHour hhour)
  case pm =>
    cases mode with
    | h24 => rfl
    | h12 =>
      have hbit := bitAt_five_byteOf_add_hourNum a.pm hflagHour hhour
      exact (congrArg some hbit).trans (some_decide_eq_of_pmAbsent hpm)

end Sys2Proof.Proofs
end

section
/-! What the parts of the offset and timer registers come to on numbers: the check of a value's range, a binary code as
it is read from a byte and as it is read back, and a bit that is read and written again. -/

namespace Sys2Proof.Proofs

open Sys2Proof.Machine Sys2Proof.Spec

/-! ## Checks -/

/-- A range test of the machine is the statements' check. -/
theorem ite_outOfRange_eq_firstOf {α : Type} {v lo hi : Int} {e : BlockError} {r : Except BlockError α} {a : α}
    (h : lo ≤ v → v ≤ hi → r = .ok a) :
    (if v < lo ∨ hi < v then .error e else r) = firstOf [(out v lo hi, e)] a := by
  rw [firstOf_cons, firstOf_nil, out]
  by_cases hout : v < lo ∨ hi < v
  · rw [if_pos hout, if_pos (decide_eq_true hout)]
  · rw [if_neg hout, if_neg (by rwa [decide_eq_true_eq]), h (by omega) (by omega)]

/-! ## Binary codes -/

/-- A bit slice of a byte is a quotient and a remainder. -/
theorem extractLsb'_eq_ofNat (b : Byte) (lo w : Nat) :
    b.extractLsb' lo w = BitVec.ofNat w (b.toNat / 2 ^ lo % 2 ^ w) := by
  refine BitVec.eq_of_toNat_eq ?_
  rw [BitVec.extractLsb'_toNat, BitVec.toNat_ofNat, Nat.mod_mod, Nat.shiftRight_eq_div_pow]

/-- A code written at bit `lo` is read back, whatever stands above and below it. -/
theorem code_byteOf {w lo m n total : Nat} (c : BitVec w) (htotal : total = m + (2 ^ lo * c.toNat + n))
    (hm : 2 ^ (lo + w) ∣ m) (hn : n < 2 ^ lo) (hfit : lo + w ≤ 8) :
    BitVec.ofNat w ((byteOf total).toNat / 2 ^ lo % 2 ^ w) = c := by
  obtain ⟨k, rfl⟩ := hm
  subst htotal
  have hbyte : 2 ^ 8 = 2 ^ lo * 2 ^ (8 - lo) := by
    rw [← pow_add, Nat.add_sub_cancel' (by omega)]
  have hsum : 2 ^ (lo + w) * k + (2 ^ lo * c.toNat + n) = 2 ^ lo * (2 ^ w * k + c.toNat) + n := by ring
  have hquot : (2 ^ lo * (2 ^ w * k + c.toNat) + n) / 2 ^ lo = 2 ^ w * k + c.toNat := by
    rw [Nat.mul_add_div (Nat.two_pow_pos lo), Nat.div_eq_of_lt hn, Nat.add_zero]
  refine BitVec.eq_of_toNat_eq ?_
  rw [BitVec.toNat_ofNat, Nat.mod_mod, byteOf, BitVec.toNat_ofNat, hbyte, Nat.mod_mul_right_div_self,
    Nat.mod_mod_of_dvd _ (Nat.pow_dvd_pow 2 (by omega)), hsum, hquot, Nat.mul_add_mod, Nat.mod_eq_of_lt c.isLt]

/-- A Bool written at bit `k` in the same way is read back. -/
theorem bitAt_byteOf_of_eq {k m n total : Nat} {x : Bool} (htotal : total = m + (flag x k + n)) (hm : 2 ^ (k + 1) ∣ m)
    (hn : n < 2 ^ k) (hfit : k < 8) : bitAt (byteOf total) k = x := by
  rw [htotal, bitAt_byteOf_flag x hfit hm hn]

/-- A bit that is read and written again is its power of two. -/
theorem flag_bitAt (b : Byte) (k : Nat) : flag (bitAt b k) k = 2 ^ k * (b.toNat / 2 ^ k % 2) := by
  rw [flag, bitAt]
  rcases Nat.mod_two_eq_zero_or_one (b.toNat / 2 ^ k) with h | h <;> simp [h]

end Sys2Proof.Proofs
end

section
/-! The offset register (44_offset_timer.md R180-R182): the mode at bit 7 over a 7-bit two's-complement number. -/

namespace Sys2Proof.Proofs

open Sys2Proof.Machine Sys2Proof.Spec

theorem ext_offset_eq_field (b : Byte) : ext b ⟨6, 7⟩ = field b 0 7 := ext_eq b ⟨6, 7⟩

theorem field_zero_seven_range (b : Byte) : 0 ≤ field b 0 7 ∧ field b 0 7 ≤ 127 := by
  rw [field]
  omega

/-- Seven bits are always in the domain of TC7_DECODE. -/
theorem offsetDecode_cons (b : Byte) (rest : Buf) : offsetDecode (b :: rest) = .ok (offsetOf b) := by
  obtain ⟨h0, h127⟩ := field_zero_seven_range b
  have hvalue : tc7Decode (ext b ⟨6, 7⟩) = .ok (signed7 (field b 0 7)) := by
    rw [ext_offset_eq_field, tc7Decode_ok _ h0 h127, signed7]
  have hlen : needLength lenOffset (b :: rest) (byteAt (b :: rest) 0) = .ok b := needLength_ok (by simp [lenOffset])
  simp only [offsetDecode, hlen, bind, Except.bind, hvalue, offsetMode, bit_eq_bitAt, offsetOf]
  cases bitAt b 7 <;> rfl

theorem map_offsetDecode (buf : Buf) : (offsetDecode buf).map .offset = decoded1 buf fun b => .offset (offsetOf b) := by
  cases buf with
  | nil => rfl
  | cons b rest => rw [offsetDecode_cons]; rfl

/-- The mode bit joined to a number of seven bits. -/
theorem modeBit_or_ofInt (x : Bool) (v : Int) :
    boolByte x <<< 7 ||| BitVec.ofInt 8 (v % 128) = byteOf (flag x 7 + (v % 128).toNat) := by
  rw [ofInt_eq_byteOf_toNat (by omega), boolByte_shiftLeft_or_byteOf x (by decide) (by omega)]

theorem offsetEncode_eq (o : OffsetIn) : offsetEncode o = offsetBytes o := by
  rw [offsetEncode, oneByte, tc7Encode_eq, map_firstOf, map_firstOf, modeBit_or_ofInt, offsetBytes]

/-- Settles O36: the seven value bits are in the domain of the two's-complement decode, and the encode's range check is
that of the two's-complement encode. -/
theorem offsetResults : Obligations.OffsetResults := by
  unfold Obligations.OffsetResults
  intro buf o s
  exact ⟨rfl, rfl, respond_eq_answered s (map_offsetDecode buf), respond_eq_answered s (by rw [offsetEncode_eq])⟩

end Sys2Proof.Proofs
end

section
/-! The timer registers (44_offset_timer.md R183-R196): the tables of names and widths, the fields of each byte, the
byte each encode packs, and the block of five registers. -/

namespace Sys2Proof.Proofs

open Sys2Proof.Machine Sys2Proof.Spec

/-! ## Tables -/

theorem cofName_eq (code : Code3) : cofName code = cofOf code.toNat := by
  revert code
  decide

theorem tacName_eq (code : Code2) : tacName code = tacOf code.toNat := by
  revert code
  decide

theorem name_srcRow (code : Nat) : (srcRow code).map SrcRow.name = srcNameOf code := List.getElem?_map.symm

/-- The decimals of R189 are the statements' fractions. -/
theorem pulseWidthMs_eq (code : Code3) : pulseWidthMs code = widthOf code.toNat := by
  have hlt : code.toNat < 8 := code.isLt
  rw [pulseWidthMs]
  interval_cases code.toNat <;> norm_num [widthOf, pulseWidthFirst, pulseWidthLast]

/-! ## Decodes -/

theorem toNat_ofNat_mod (w n : Nat) : (BitVec.ofNat w (n % 2 ^ w)).toNat = n % 2 ^ w := by
  rw [BitVec.toNat_ofNat, Nat.mod_mod]

theorem timerControlFields_eq (b : Byte) : timerControlFields b = timerControlOf b := by
  simp only [timerControlFields, extractLsb'_eq_ofNat, cofName_eq, tacName_eq, toNat_ofNat_mod, bit_eq_bitAt]
  rfl

theorem codedSrc_eq (b : Byte) : codedSrc (b.extractLsb' 0 3) = srcCodeOf b := by
  rw [codedSrc, name_srcRow, extractLsb'_eq_ofNat, toNat_ofNat_mod, pow_zero, Nat.div_one]
  rfl

theorem timerAFreqFields_eq (b : Byte) : timerAFreqFields b = timerAFreqOf b := by
  rw [timerAFreqFields, codedSrc_eq, timerAFreqOf]

theorem timerBFreqFields_eq (b : Byte) : timerBFreqFields b = timerBFreqOf b := by
  rw [timerBFreqFields, codedSrc_eq, pulseWidthMs_eq, extractLsb'_eq_ofNat, toNat_ofNat_mod]
  rfl

theorem map_timerBlockDecode (buf : Buf) : (timerBlockDecode buf).map .timerBlock = timerBlockOf buf := by
  match buf with
  | c :: fa :: va :: fb :: vb :: rest =>
    rw [timerBlockDecode, needLength_ok (by simp [lenTimer]), timerControlFields_eq, timerAFreqFields_eq,
      timerBFreqFields_eq]
    rfl
  | [] | [_] | [_, _] | [_, _, _] | [_, _, _, _] =>
    rw [timerBlockDecode, needLength_short (by simp [lenTimer]), lengthError_eq_tooShort]
    rfl

/-! ## Encodes -/

theorem timerControlEncode_eq (c : TimerControlIn) : timerControlEncode c = .ok [timerControlByte c] := by
  refine oneByte_ok_ofInt (bitsPack_timerControl ..) ?_
  push_cast [flag_eq_mul_boolInt]
  ring

theorem timerAFreqEncode_eq (f : TimerAFreqIn) : timerAFreqEncode f = .ok [timerAFreqByte f] := by
  rw [timerAFreqEncode, timerAFreqByte, byteOf, BitVec.ofNat_toNat]

theorem timerBFreqEncode_eq (f : TimerBFreqIn) : timerBFreqEncode f = .ok [timerBFreqByte f] :=
  oneByte_ok_ofInt (bitsPack_timerBFreq ..) (by push_cast; rfl)

theorem timerValueEncode_eq (v : TimerValueIn) : timerValueEncode v = timerValueBytes v :=
  ite_outOfRange_eq_firstOf fun h0 _ => by rw [ofInt_eq_byteOf_toNat h0]

/-- R196: timer A's check, then timer B's, and past both the five bytes. -/
theorem timerBlockEncode_eq (t : TimerBlockIn) : timerBlockEncode t = timerBlockBytes t := by
  simp only [timerBlockEncode, timerValueEncode_eq, timerControlEncode_eq, timerAFreqEncode_eq, timerBFreqEncode_eq]
  refine bind_firstOf fun _ => ?timerB
  exact bind_firstOf (checks' := []) fun _ => rfl

/-! ## The operations -/

section

variable (s : State)

theorem exec_timerControlDecode (buf : Buf) :
    exec (.timerControlDecode buf) s = .next (answered s (decoded1 buf fun b => .timerControl (timerControlOf b))) :=
  respond_eq_answered s (by simp only [timerControlDecode, map_needLength_one, timerControlFields_eq])

theorem exec_timerControlEncode (c : TimerControlIn) :
    exec (.timerControlEncode c) s = .next (answered s (.ok (.buf [timerControlByte c]))) :=
  respond_eq_answered s (congrArg _ (timerControlEncode_eq c))

theorem exec_timerAFreqDecode (buf : Buf) :
    exec (.timerAFreqDecode buf) s = .next (answered s (decoded1 buf fun b => .timerAFreq (timerAFreqOf b))) :=
  respond_eq_answered s (by simp only [timerAFreqDecode, map_needLength_one, timerAFreqFields_eq])

theorem exec_timerAFreqEncode (f : TimerAFreqIn) :
    exec (.timerAFreqEncode f) s = .next (answered s (.ok (.buf [timerAFreqByte f]))) :=
  respond_eq_answered s (congrArg _ (timerAFreqEncode_eq f))

theorem exec_timerBFreqDecode (buf : Buf) :
    exec (.timerBFreqDecode buf) s = .next (answered s (decoded1 buf fun b => .timerBFreq (timerBFreqOf b))) :=
  respond_eq_answered s (by simp only [timerBFreqDecode, map_needLength_one, timerBFreqFields_eq])

theorem exec_timerBFreqEncode (f : TimerBFreqIn) :
    exec (.timerBFreqEncode f) s = .next (answered s (.ok (.buf [timerBFreqByte f]))) :=
  respond_eq_answered s (congrArg _ (timerBFreqEncode_eq f))

theorem exec_timerBlockDecode (buf : Buf) :
    exec (.timerBlockDecode buf) s = .next (answered s (timerBlockOf buf)) :=
  respond_eq_answered s (map_timerBlockDecode buf)

theorem exec_timerBlockEncode (t : TimerBlockIn) :
    exec (.timerBlockEncode t) s = .next (answered s ((timerBlockBytes t).map .buf)) :=
  respond_eq_answered s (by rw [timerBlockEncode_eq])

end

/-- Settles O37: the byte's five fields with their names, and the pack list of the control byte. -/
theorem timerControlResults : Obligations.TimerControlResults := by
  unfold Obligations.TimerControlResults
  intro buf c s
  exact ⟨rfl, rfl, exec_timerControlDecode s buf, exec_timerControlEncode s c⟩

/-- Settles O38: the codes of each byte with their table entries, and the bytes that hold the codes alone. -/
theorem timerFrequencyResults : Obligations.TimerFrequencyResults := by
  unfold Obligations.TimerFrequencyResults
  intro buf fa fb s
  exact ⟨rfl, rfl, rfl, rfl, exec_timerAFreqDecode s buf, exec_timerAFreqEncode s fa, exec_timerBFreqDecode s buf,
    exec_timerBFreqEncode s fb⟩

/-- Settles O39: the byte itself, and the range check before it. -/
theorem timerValueResults : Obligations.TimerValueResults := by
  unfold Obligations.TimerValueResults
  intro buf v s
  refine ⟨rfl, rfl, respond_eq_answered s ?decode, respond_eq_answered s (by rw [timerValueEncode_eq])⟩
  case decode => exact map_needLength_one buf TimerValue.mk .timerValue

/-- Settles O40: the five registers' decodes, and the five encodes one after another. -/
theorem timerBlockResults : Obligations.TimerBlockResults := by
  unfold Obligations.TimerBlockResults
  intro buf t s
  exact ⟨rfl, rfl, exec_timerBlockDecode s buf, exec_timerBlockEncode s t⟩

end Sys2Proof.Proofs
end

section
/-! The timer configuration laws (44_offset_timer.md R199): each register byte read back after it is written, and
written again after it is read. -/

namespace Sys2Proof.Proofs

open Sys2Proof.Machine Sys2Proof.Spec

/-! ## Written, then read -/

theorem dvd_flag (x : Bool) (k : Nat) : 2 ^ k ∣ flag x k := by
  cases x <;> simp [flag]

theorem flag_le (x : Bool) (k : Nat) : flag x k ≤ 2 ^ k := by
  cases x <;> simp [flag]

/-- A control byte read back: each field stands over a smaller number and under a multiple of a higher power of two. -/
theorem codes_timerControlOf (c : TimerControlIn) :
    (timerControlOf (timerControlByte c)).timerAInterruptPulseMode = c.timerAInterruptPulseMode ∧
    (timerControlOf (timerControlByte c)).timerBInterruptPulseMode = c.timerBInterruptPulseMode ∧
    (timerControlOf (timerControlByte c)).clockOutFrequency.code = c.clockOutFrequency ∧
    (timerControlOf (timerControlByte c)).timerAControl.code = c.timerAControl ∧
    (timerControlOf (timerControlByte c)).countdownTimerBEnabled = c.countdownTimerBEnabled := by
  obtain ⟨a, b, cof, tac, e⟩ := c
  have hcof := cof.isLt
  have htac := tac.isLt
  have ha := dvd_flag a 7
  have hb := dvd_flag b 6
  have hb64 := flag_le b 6
  have he1 := flag_le e 0
  dsimp only [timerControlOf, timerControlByte]
  refine ⟨?pulseA, ?pulseB, ?clockOut, ?timerA, ?enabled⟩
  case pulseA =>
    refine bitAt_byteOf_of_eq (m := 0) (n := flag b 6 + 8 * cof.toNat + 2 * tac.toNat + flag e 0) ?_ ?_ ?_ ?_ <;> omega
  case pulseB =>
    refine bitAt_byteOf_of_eq (m := flag a 7) (n := 8 * cof.toNat + 2 * tac.toNat + flag e 0) ?_ ?_ ?_ ?_ <;> omega
  case clockOut =>
    refine code_byteOf (lo := 3) cof (m := flag a 7 + flag b 6) (n := 2 * tac.toNat + flag e 0) ?_ ?_ ?_ ?_ <;> omega
  case timerA =>
    refine code_byteOf (lo := 1) tac (m := flag a 7 + flag b 6 + 8 * cof.toNat) (n := flag e 0) ?_ ?_ ?_ ?_ <;> omega
  case enabled =>
    refine bitAt_byteOf_of_eq (m := flag a 7 + flag b 6 + 8 * cof.toNat + 2 * tac.toNat) (n := 0) ?_ ?_ ?_ ?_ <;> omega

theorem toNat_byteOf_toNat {v : Int} (h0 : 0 ≤ v) (h255 : v ≤ 255) : ((byteOf v.toNat).toNat : Int) = v := by
  rw [byteOf, BitVec.toNat_ofNat]
  omega

/-- A source-clock code in the low three bits. -/
theorem code_srcCodeOf_byteOf {m : Nat} (c : Code3) (hm : 8 ∣ m) : (srcCodeOf (byteOf (m + c.toNat))).code = c := by
  have hcode := code_byteOf c (lo := 0) (m := m) (n := 0) (total := m + c.toNat) (by omega) hm (by decide) (by decide)
  rwa [pow_zero, Nat.div_one] at hcode

theorem code_timerAFreqOf (f : TimerAFreqIn) :
    (timerAFreqOf (timerAFreqByte f)).sourceClock.code = f.sourceClock := by
  have hcode := code_srcCodeOf_byteOf f.sourceClock (Nat.dvd_zero 8)
  rwa [Nat.zero_add] at hcode

theorem sourceClock_code_timerBFreqOf (f : TimerBFreqIn) :
    (timerBFreqOf (timerBFreqByte f)).sourceClock.code = f.sourceClock :=
  code_srcCodeOf_byteOf f.sourceClock (by omega)

theorem pulseWidth_code_timerBFreqOf (f : TimerBFreqIn) :
    (timerBFreqOf (timerBFreqByte f)).pulseWidth.code = f.pulseWidth :=
  code_byteOf f.pulseWidth (lo := 4) (Nat.zero_add _).symm (Nat.dvd_zero _) (by omega) (by decide)

theorem timerBlockBytes_ok {t : TimerBlockIn} (ha0 : 0 ≤ t.timerAValue.value) (ha1 : t.timerAValue.value ≤ 255)
    (hb0 : 0 ≤ t.timerBValue.value) (hb1 : t.timerBValue.value ≤ 255) :
    timerBlockBytes t = .ok
      [ timerControlByte t.control, timerAFreqByte t.timerAFrequency, byteOf t.timerAValue.value.toNat
      , timerBFreqByte t.timerBFrequency, byteOf t.timerBValue.value.toNat ] := by
  rw [timerBlockBytes, firstOf_eq_ok_iff]
  simp only [List.forall_mem_cons, out_eq_false_iff, and_true]
  exact ⟨⟨ha0, ha1⟩, ⟨hb0, hb1⟩, List.forall_mem_nil _⟩

/-! ## Read, then written -/

/-- The five fields of a control byte cover its eight bits. -/
theorem timerControlByte_timerControlOf (b : Byte) :
    timerControlByte ⟨(timerControlOf b).timerAInterruptPulseMode, (timerControlOf b).timerBInterruptPulseMode,
      (timerControlOf b).clockOutFrequency.code, (timerControlOf b).timerAControl.code,
      (timerControlOf b).countdownTimerBEnabled⟩ = b := by
  refine BitVec.eq_of_toNat_eq ?_
  simp only [timerControlByte, timerControlOf, flag_bitAt, byteOf, BitVec.toNat_ofNat, Nat.reducePow, Nat.mod_mod]
  omega

/-- The unused bits 7 to 3 are written 0. -/
theorem timerAFreqByte_timerAFreqOf (b : Byte) :
    timerAFreqByte ⟨(timerAFreqOf b).sourceClock.code⟩ = b &&& 0x07 := by
  have hmask : (b &&& 0x07).toNat = b.toNat % 8 := Nat.and_two_pow_sub_one_eq_mod b.toNat 3
  refine BitVec.eq_of_toNat_eq ?_
  simp only [hmask, timerAFreqByte, timerAFreqOf, srcCodeOf, byteOf, BitVec.toNat_ofNat]
  omega

/-- The mask 0x77 keeps the low three bits of each half of a byte. -/
theorem toNat_and_0x77 (b : Byte) : (b &&& 0x77).toNat = 16 * (b.toNat / 16 % 8) + b.toNat % 8 := by
  have hhigh : (b.toNat &&& 0x77) / 2 ^ 4 = b.toNat / 2 ^ 4 % 2 ^ 3 := by
    rw [Nat.and_div_two_pow]
    exact Nat.and_two_pow_sub_one_eq_mod _ 3
  have hlow : (b.toNat &&& 0x77) % 2 ^ 4 = b.toNat % 2 ^ 4 % 2 ^ 3 := by
    rw [Nat.and_mod_two_pow]
    exact Nat.and_two_pow_sub_one_eq_mod _ 3
  calc (b &&& 0x77).toNat = b.toNat &&& 0x77 := BitVec.toNat_and ..
    _ = 16 * (b.toNat / 16 % 8) + b.toNat % 8 := by omega

/-- The unused bits 7 and 3 are written 0. -/
theorem timerBFreqByte_timerBFreqOf (b : Byte) :
    timerBFreqByte ⟨(timerBFreqOf b).pulseWidth.code, (timerBFreqOf b).sourceClock.code⟩ = b &&& 0x77 := by
  refine BitVec.eq_of_toNat_eq ?_
  simp only [toNat_and_0x77, timerBFreqByte, timerBFreqOf, srcCodeOf, byteOf, BitVec.toNat_ofNat]
  omega

/-- Settles O41: in range each of the five bytes reads back its codes and value; a control byte is covered by its
fields, and a frequency byte but for its unused bits. -/
theorem timerConfigurationLaws : Obligations.TimerConfigurationLaws := by
  unfold Obligations.TimerConfigurationLaws
  refine ⟨?block, fun b => ⟨timerControlOf b, fun s => ⟨exec_timerControlDecode s [b], ?control⟩⟩,
    fun b => ⟨timerAFreqOf b, fun s => ⟨exec_timerAFreqDecode s [b], ?freqA⟩⟩,
    fun b => ⟨timerBFreqOf b, fun s => ⟨exec_timerBFreqDecode s [b], ?freqB⟩⟩⟩
  case block =>
    intro t s ha0 ha1 hb0 hb1
    obtain ⟨hpulseA, hpulseB, hcof, htac, henabled⟩ := codes_timerControlOf t.control
    have hencode := exec_timerBlockEncode s t
    rw [timerBlockBytes_ok ha0 ha1 hb0 hb1] at hencode
    refine ⟨_, _, hencode, fun s' => exec_timerBlockDecode s' _, ?_⟩
    simp only [hpulseA, hpulseB, hcof, htac, henabled, code_timerAFreqOf, sourceClock_code_timerBFreqOf,
      pulseWidth_code_timerBFreqOf, toNat_byteOf_toNat ha0 ha1, toNat_byteOf_toNat hb0 hb1, and_self]
  case control => rw [exec_timerControlEncode, timerControlByte_timerControlOf]
  case freqA => rw [exec_timerAFreqEncode, timerAFreqByte_timerAFreqOf]
  case freqB => rw [exec_timerBFreqEncode, timerBFreqByte_timerBFreqOf]

end Sys2Proof.Proofs
end

section
/-! Tick-to-duration conversion (44_offset_timer.md R188, R197, R198): the clock table's frequencies as fractions, and
truncation to thousandths as an integer quotient. -/

namespace Sys2Proof.Proofs

open Sys2Proof.Machine Sys2Proof.Spec

variable {sourceClock ticks p q : Int} {units : List TimeUnit}

/-- The source-clock table (R188) and the statements' fractions: the same keys, frequencies and units. -/
theorem map_srcRowInt (x : Int) :
    (srcRowInt x).map (fun row => (row.hz, row.preferredUnits)) =
      (clockOf x).map fun c => ((c.1 : Rat) / (c.2.1 : Rat), c.2.2) := by
  by_cases h : 0 ≤ x ∧ x ≤ 6
  · obtain ⟨h0, h6⟩ := h
    interval_cases x <;> exact congrArg some (Prod.ext (by norm_num) rfl)
  · have hclock : clockOf x = none := by
      refine List.lookup_eq_none_iff.mpr ?_
      simp only [List.forall_mem_cons, bne_iff_ne, List.not_mem_nil, false_imp_iff, implies_true, and_true]
      omega
    have hrow : srcRowInt x = none := by
      by_cases h7 : x = 7
      · rw [h7]; rfl
      · exact if_pos (by omega)
    rw [hclock, hrow]
    rfl

/-- The durations of a tick count at a clock of `p / q` Hz. -/
def durationAt (p q : Int) (units : List TimeUnit) (ticks : Int) : Duration :=
  let sec : Rat := (ticks : Rat) / ((p : Rat) / (q : Rat))
  ⟨thousandths (sec * 1000000), thousandths (sec * 1000), thousandths sec, thousandths (sec / 60),
    thousandths (sec / 3600), units⟩

/-- The machine's durations are a row's frequency and units alone. -/
theorem durationOf_eq_durationAt {row : SrcRow} (hhz : row.hz = (p : Rat) / (q : Rat))
    (hunits : row.preferredUnits = units) : durationOf row ticks = durationAt p q units ticks := by
  rw [durationOf, hhz, hunits]
  rfl

theorem map_timerDuration (sourceClock ticks : Int) :
    (timerDuration sourceClock ticks).map .duration = durationAnswer sourceClock ticks := by
  rw [timerDuration, durationAnswer]
  split
  · rfl
  have hrow := map_srcRowInt sourceClock
  match hclock : clockOf sourceClock with
  | none =>
    rw [hclock, Option.map_none, Option.map_eq_none_iff] at hrow
    rw [hrow]
    rfl
  | some (p, q, units) =>
    rw [hclock, Option.map_some, Option.map_eq_some_iff] at hrow
    obtain ⟨row, hsome, hpair⟩ := hrow
    obtain ⟨hhz, hunits⟩ := Prod.mk.inj hpair
    rw [hsome]
    exact congrArg (fun d => Except.ok (Value.duration d)) (durationOf_eq_durationAt hhz hunits)

theorem exec_timerDuration (sourceClock ticks : Int) (s : State) :
    exec (.timerDuration sourceClock ticks) s = .next (answered s (durationAnswer sourceClock ticks)) :=
  respond_eq_answered s (map_timerDuration sourceClock ticks)

/-- Settles O42: ticks are checked first, and a clock of the table has one frequency and one list of units. -/
theorem timerDurationResult : Obligations.TimerDurationResult := by
  unfold Obligations.TimerDurationResult
  intro sourceClock ticks s
  exact ⟨rfl, exec_timerDuration sourceClock ticks s⟩

/-! ## Integer form -/

theorem durationAnswer_of_clockOf (h0 : 0 ≤ ticks) (h255 : ticks ≤ 255)
    (hclock : clockOf sourceClock = some (p, q, units)) :
    durationAnswer sourceClock ticks = .ok (.duration (durationAt p q units ticks)) := by
  rw [durationAnswer, if_neg (by omega), hclock]
  rfl

/-- Every frequency of the clock table has a positive numerator. -/
theorem clockOf_numerator_pos (h : clockOf sourceClock = some (p, q, units)) : 0 < p := by
  obtain ⟨before, after, htable, -⟩ := List.lookup_eq_some_iff.mp h
  have hpos : ∀ c ∈ before ++ (sourceClock, p, q, units) :: after, 0 < c.2.1 := by
    rw [← htable]
    decide
  exact hpos (sourceClock, p, q, units) (by simp)

/-- R198: a fraction in thousandths is truncated by integer division. -/
theorem thousandths_eq_ediv {x : Rat} {n d : Int} (hd : 0 < d) (hx : x * 1000 = (n : Rat) / (d : Rat)) :
    thousandths x = ((n / d : Int) : Rat) / 1000 := by
  obtain ⟨k, rfl⟩ := Int.eq_ofNat_of_zero_le hd.le
  rw [thousandths, hx, Int.cast_natCast, Rat.floor_intCast_div_natCast]

/-- Settles O43: over a positive denominator, each duration in thousandths is a quotient of integers. -/
theorem timerDurationIntegerForm : Obligations.TimerDurationIntegerForm := by
  unfold Obligations.TimerDurationIntegerForm
  intro sourceClock ticks p q units s h0 h255 hclock
  have hp := clockOf_numerator_pos hclock
  have hexec := exec_timerDuration sourceClock ticks s
  rw [durationAnswer_of_clockOf h0 h255 hclock] at hexec
  refine ⟨_, hexec, thousandths_eq_ediv hp ?_, thousandths_eq_ediv hp ?_, thousandths_eq_ediv hp ?_,
    thousandths_eq_ediv (by omega) ?_, thousandths_eq_ediv (by omega) ?_⟩ <;>
  · rw [div_div_eq_mul_div]
    push_cast
    ring

end Sys2Proof.Proofs
end

section
/-! Register marshalling (45_marshalling.md R210-R229): each operation is one GET or one SET, over the decode or the
encode the statements write, with the overrides of R211. -/

namespace Sys2Proof.Proofs

open Sys2Proof.Machine Sys2Proof.Spec

/-! ## GET and SET as the statements write them -/

theorem readResult_eq_readThen (dec : Buf → Except BlockError Value) (reply : BusReply) :
    readResult dec reply = readThen reply dec := by
  cases reply <;> rfl

theorem writeResult_eq_writeThen (reply : BusReply) : writeResult reply = writeThen reply := by
  cases reply <;> rfl

/-- A transaction issued and answered is the statements' next state of the bus. -/
theorem issue_eq_onBus {s : State} {t : Transaction} {reply : Option BusReply} {bus : Bus} {img : Memory}
    (h : busAnswer s t = (reply, bus, img)) : issue s t = (reply, onBus s t bus img) := by
  rw [issue, h]
  rfl

variable {i : Instr} {s : State} {addr : Byte}

theorem isGet_of_exec_eq {n : Nat} {dec : Buf → Except BlockError Value} (h : exec i s = getGroup s addr n dec) :
    IsGet i s addr n dec := by
  intro reply bus img hanswer
  rw [h, getGroup_answered (congrArg Prod.fst hanswer), issue_eq_onBus hanswer, answered_eq_answer,
    readResult_eq_readThen]

theorem isSet_of_exec_eq {enc : Except BlockError Buf} (h : exec i s = setRange s addr enc) : IsSet i s addr enc := by
  constructor
  · rintro e rfl
    exact h
  · rintro v reply bus img rfl hanswer
    rw [h, setRange_ok, putRange_answered (congrArg Prod.fst hanswer), issue_eq_onBus hanswer, answered_eq_answer,
      writeResult_eq_writeThen]

/-! ## Overrides (R211) -/

theorem effectiveMode_eq_getD (s : State) (mode : Option HourMode) :
    effectiveMode s mode = mode.getD s.cfg.hourMode := by
  cases mode <;> rfl

theorem effectiveCentury_eq_getD (s : State) (century : Option Int) :
    effectiveCentury s century = century.getD s.cfg.century := by
  cases century <;> rfl

/-! ## The operations: one equation each -/

section Operations

variable (s : State) (mode : Option HourMode) (century : Option Int)

theorem exec_getProfile : exec .getProfile s = getGroup s 0x00 3 profileOf :=
  congrArg (getGroup s 0x00 3) (funext map_profileDecode)

theorem exec_getTime : exec (.getTime mode century) s =
    getGroup s 0x03 7 fun buf => timeOf buf (mode.getD s.cfg.hourMode) (century.getD s.cfg.century) := by
  refine congrArg (getGroup s 0x03 7) (funext fun buf => ?_)
  rw [map_timeDecode, effectiveMode_eq_getD, effectiveCentury_eq_getD]

theorem exec_getAlarm : exec (.getAlarm mode) s =
    getGroup s 0x0A 4 fun buf => alarmOf buf (mode.getD s.cfg.hourMode) := by
  refine congrArg (getGroup s 0x0A 4) (funext fun buf => ?_)
  rw [map_alarmDecode, effectiveMode_eq_getD]

theorem exec_getOffset : exec .getOffset s =
    getGroup s 0x0E 1 fun buf => decoded1 buf fun b => .offset (offsetOf b) :=
  congrArg (getGroup s 0x0E 1) (funext map_offsetDecode)

theorem exec_getTimer : exec .getTimer s = getGroup s 0x0F 5 timerBlockOf :=
  congrArg (getGroup s 0x0F 5) (funext map_timerBlockDecode)

theorem exec_setControl1 (c : Control1In) : exec (.setControl1 c) s = setRange s 0x00 (control1Bytes c) :=
  congrArg (setRange s 0x00) (control1Encode_eq c)

theorem exec_setControl2 (c : Control2In) : exec (.setControl2 c) s = setRange s 0x01 (control2Bytes c) :=
  congrArg (setRange s 0x01) (control2Encode_eq c)

theorem exec_setControl3 (c : Control3In) : exec (.setControl3 c) s = setRange s 0x02 (control3Bytes c) :=
  congrArg (setRange s 0x02) (control3Encode_eq c)

theorem exec_setTime (t : TimeIn) : exec (.setTime t mode century) s =
    setRange s 0x03 (timeGroupBytes t (mode.getD s.cfg.hourMode) (century.getD s.cfg.century)) := by
  refine congrArg (setRange s 0x03) ?_
  rw [timeEncode_eq, effectiveMode_eq_getD, effectiveCentury_eq_getD]

theorem exec_setAlarm (a : AlarmIn) : exec (.setAlarm a mode) s =
    setRange s 0x0A (alarmBytes a (mode.getD s.cfg.hourMode)) := by
  refine congrArg (setRange s 0x0A) ?_
  rw [alarmEncode_eq, effectiveMode_eq_getD]

theorem exec_setOffset (o : OffsetIn) : exec (.setOffset o) s = setRange s 0x0E (offsetBytes o) :=
  congrArg (setRange s 0x0E) (offsetEncode_eq o)

theorem exec_setTimer (t : TimerBlockIn) : exec (.setTimer t) s = setRange s 0x0F (timerBlockBytes t) :=
  congrArg (setRange s 0x0F) (timerBlockEncode_eq t)

theorem exec_setTimerControl (c : TimerControlIn) :
    exec (.setTimerControl c) s = setRange s 0x0F (.ok [timerControlByte c]) :=
  congrArg (setRange s 0x0F) (timerControlEncode_eq c)

theorem exec_setTimerAFreq (f : TimerAFreqIn) :
    exec (.setTimerAFreq f) s = setRange s 0x10 (.ok [timerAFreqByte f]) :=
  congrArg (setRange s 0x10) (timerAFreqEncode_eq f)

theorem exec_setTimerAValue (v : TimerValueIn) : exec (.setTimerAValue v) s = setRange s 0x11 (timerValueBytes v) :=
  congrArg (setRange s 0x11) (timerValueEncode_eq v)

theorem exec_setTimerBFreq (f : TimerBFreqIn) :
    exec (.setTimerBFreq f) s = setRange s 0x12 (.ok [timerBFreqByte f]) :=
  congrArg (setRange s 0x12) (timerBFreqEncode_eq f)

theorem exec_setTimerBValue (v : TimerValueIn) : exec (.setTimerBValue v) s = setRange s 0x13 (timerValueBytes v) :=
  congrArg (setRange s 0x13) (timerValueEncode_eq v)

/-- The soft reset is a SET of a constant (R229). -/
theorem exec_softReset : exec .softReset s = setRange s 0x00 (.ok [0x58]) := rfl

end Operations

/-! ## The statements -/

/-- Settles O44: the three operations are GETs without an override. -/
theorem getGroupResults : Obligations.GetGroupResults := by
  unfold Obligations.GetGroupResults
  intro s
  exact ⟨rfl, rfl, rfl, isGet_of_exec_eq (exec_getProfile s), isGet_of_exec_eq (exec_getOffset s),
    isGet_of_exec_eq (exec_getTimer s)⟩

/-- Settles O45: the two operations are GETs, their decodes in the effective mode and century. -/
theorem getTimeAndAlarmResults : Obligations.GetTimeAndAlarmResults := by
  unfold Obligations.GetTimeAndAlarmResults
  intro mode century s
  exact ⟨rfl, rfl, isGet_of_exec_eq (exec_getTime s mode century), isGet_of_exec_eq (exec_getAlarm s mode)⟩

/-- Settles O46: the three operations are SETs. -/
theorem setControlResults : Obligations.SetControlResults := by
  unfold Obligations.SetControlResults
  intro c1 c2 c3 s
  exact ⟨rfl, rfl, rfl, isSet_of_exec_eq (exec_setControl1 s c1), isSet_of_exec_eq (exec_setControl2 s c2),
    isSet_of_exec_eq (exec_setControl3 s c3)⟩

/-- Settles O47: the two operations are SETs, their encodes in the effective mode and century. -/
theorem setTimeAndAlarmResults : Obligations.SetTimeAndAlarmResults := by
  unfold Obligations.SetTimeAndAlarmResults
  intro t a mode century s
  exact ⟨rfl, rfl, isSet_of_exec_eq (exec_setTime s mode century t), isSet_of_exec_eq (exec_setAlarm s mode a)⟩

/-- Settles O48: the seven operations are SETs. -/
theorem setOffsetAndTimerResults : Obligations.SetOffsetAndTimerResults := by
  unfold Obligations.SetOffsetAndTimerResults
  intro o t c fa fb v s
  exact ⟨rfl, rfl, rfl, rfl, rfl, rfl, rfl, isSet_of_exec_eq (exec_setOffset s o), isSet_of_exec_eq (exec_setTimer s t),
    isSet_of_exec_eq (exec_setTimerControl s c), isSet_of_exec_eq (exec_setTimerAFreq s fa),
    isSet_of_exec_eq (exec_setTimerAValue s v), isSet_of_exec_eq (exec_setTimerBFreq s fb),
    isSet_of_exec_eq (exec_setTimerBValue s v)⟩

/-- Settles O49: the SET's one write is one byte, which `REF_BUS` stores at address 0x00. -/
theorem softResetResult : Obligations.SoftResetResult := by
  unfold Obligations.SoftResetResult
  intro s
  have hset : IsSet .softReset s 0x00 (.ok [0x58]) := isSet_of_exec_eq (exec_softReset s)
  refine ⟨rfl, hset, fun hbus hwf => ?_⟩
  have hnext := hset.2 _ _ _ _ rfl (busAnswer_reference_write hbus)
  exact ⟨_, hnext, rfl, readByte_writeByte_same s.img 0x00 0x58 0 hwf,
    fun a ha => readByte_writeByte_other s.img 0x00 a 0x58 ha⟩

end Sys2Proof.Proofs
end

section
/-! The bytes the encodes write (10_state.md R26-R45, 30_encoding.md R84): of the length of R230's row, and within the
register formats of Safety.lean. Where a byte has a few operands of small range, the format is checked on all of
them. -/

namespace Sys2Proof.Proofs

open Sys2Proof.Machine Sys2Proof.Spec

/-! ## Bytes of one register -/

theorem registerWriteOk_control1 : ∀ cap stop twelve si ai ci : Bool, registerWriteOk 0x00
    (byteOf (flag cap 7 + (flag stop 5 + flag twelve 3 + flag si 2 + flag ai 1 + flag ci 0))) = true := by
  decide +kernel

theorem registerWriteOk_control2 : ∀ ca cb cs al wa ia ib : Bool, registerWriteOk 0x01
    (byteOf (flag ca 6 + flag cb 5 + flag cs 4 + flag al 3 + flag wa 2 + flag ia 1 + flag ib 0)) = true := by
  decide +kernel

/-- Power mode 110 is the one code that the format rejects (R135). -/
theorem registerWriteOk_control3 : ∀ bld so ds bs si bl : Bool, powerCode bld so ds ≠ 6 → registerWriteOk 0x02
    (byteOf (32 * powerCode bld so ds + flag bs 3 + 4 + flag si 1 + flag bl 0)) = true := by
  decide +kernel

/-- The time registers that hold a BCD number, with the range R152 checks (the hours are those of the 24-hour mode). -/
def timeDigitRanges : List (Nat × Int × Int) :=
  [(0x03, 0, 59), (0x04, 0, 59), (0x05, 0, 23), (0x06, 1, 31), (0x08, 1, 12), (0x09, 0, 99)]

theorem registerWriteOk_timeDigits : ∀ p ∈ timeDigitRanges, ∀ v : Int, p.2.1 ≤ v → v ≤ p.2.2 →
    registerWriteOk p.1 (byteOf (bcd2 v)) = true := by
  decide +kernel

/-- The alarm registers that hold a BCD number below the enable bit, with the range R155, R157 and R159 check (the hours
are those of the 24-hour mode). -/
def alarmDigitRanges : List (Nat × Int × Int) := [(0x0A, 0, 59), (0x0B, 0, 23), (0x0C, 1, 31)]

theorem registerWriteOk_alarmDigits : ∀ p ∈ alarmDigitRanges, ∀ v : Int, p.2.1 ≤ v → v ≤ p.2.2 → ∀ x : Bool,
    registerWriteOk p.1 (byteOf (flag x 7 + bcd2 v)) = true := by
  decide +kernel

/-- In 12-hour mode bit 5 of both hours registers is the PM bit (R31, R37). -/
theorem registerWriteOk_twelveHours : ∀ v : Int, 1 ≤ v → v ≤ 12 → ∀ pm x : Bool,
    registerWriteOk 0x05 (byteOf (flag pm 5 + bcd2 v)) = true ∧
    registerWriteOk 0x0B (byteOf (flag x 7 + (flag pm 5 + bcd2 v))) = true := by
  decide +kernel

theorem registerWriteOk_weekday : ∀ v : Int, 0 ≤ v → v ≤ 6 → ∀ x : Bool,
    registerWriteOk 0x07 (byteOf v.toNat) = true ∧ registerWriteOk 0x0D (byteOf (flag x 7 + v.toNat)) = true := by
  decide +kernel

theorem registerWriteOk_timerAFreqByte (f : TimerAFreqIn) : registerWriteOk 0x10 (timerAFreqByte f) = true := by
  have hcode : ∀ c : Code3, registerWriteOk 0x10 (byteOf c.toNat) = true := by decide
  exact hcode f.sourceClock

theorem registerWriteOk_timerBFreqByte (f : TimerBFreqIn) : registerWriteOk 0x12 (timerBFreqByte f) = true := by
  have hcodes : ∀ w c : Code3, registerWriteOk 0x12 (byteOf (16 * w.toNat + c.toNat)) = true := by decide +kernel
  exact hcodes f.pulseWidth f.sourceClock

/-- The offset, the timer control and the timer values use all eight bits. -/
theorem registerWriteOk_unrestricted {addr : Nat} (h : addr ∈ [0x0E, 0x0F, 0x11, 0x13]) (b : Byte) :
    registerWriteOk addr b = true := by
  fin_cases h <;> simp [registerWriteOk, writtenZero, writtenOne, bcdRegister]

theorem registerWriteOk_hourNum {mode : HourMode} {hour : Int} (pm : Option Bool) (h : hourBad mode hour = false) :
    registerWriteOk 0x05 (byteOf (hourNum mode hour pm)) = true := by
  cases mode with
  | h24 =>
    obtain ⟨h0, h23⟩ := out_eq_false_iff.mp h
    exact registerWriteOk_timeDigits (0x05, 0, 23) (by decide) hour h0 h23
  | h12 =>
    obtain ⟨h1, h12⟩ := out_eq_false_iff.mp h
    exact (registerWriteOk_twelveHours hour h1 h12 _ false).1

theorem registerWriteOk_alarmHourNum {mode : HourMode} {hour : Int} (pm : Option Bool) (x : Bool)
    (h : hourBad mode hour = false) : registerWriteOk 0x0B (byteOf (flag x 7 + hourNum mode hour pm)) = true := by
  cases mode with
  | h24 =>
    obtain ⟨h0, h23⟩ := out_eq_false_iff.mp h
    exact registerWriteOk_alarmDigits (0x0B, 0, 23) (by decide) hour h0 h23 x
  | h12 =>
    obtain ⟨h1, h12⟩ := out_eq_false_iff.mp h
    exact (registerWriteOk_twelveHours hour h1 h12 _ x).2

/-! ## The data of one SET -/

theorem blockWriteOk_cons {addr : Nat} {b : Byte} {rest : Buf} :
    blockWriteOk addr (b :: rest) = true ↔ registerWriteOk addr b = true ∧ blockWriteOk (addr + 1) rest = true := by
  rw [blockWriteOk, Bool.and_eq_true_iff]

theorem blockWriteOk_singleton {addr : Nat} {b : Byte} (h : registerWriteOk addr b = true) :
    blockWriteOk addr [b] = true :=
  blockWriteOk_cons.mpr ⟨h, rfl⟩

/-- What the encode answers fits the row `(addr, n)`: `n` bytes in the formats of the registers from `addr` on. -/
def Fits (addr n : Nat) (enc : Except BlockError Buf) : Prop :=
  ∀ v, enc = .ok v → v.length = n ∧ blockWriteOk addr v = true

theorem fits_byte {addr : Nat} {b : Byte} (h : registerWriteOk addr b = true) : Fits addr 1 (.ok [b]) := by
  rintro v ⟨⟩
  exact ⟨rfl, blockWriteOk_singleton h⟩

theorem fits_error (addr n : Nat) (e : BlockError) : Fits addr n (.error e) := by
  rintro v ⟨⟩

/-- After a list of checks the data are in the formats if they are whenever every check passes. -/
theorem fits_firstOf {addr : Nat} {checks : List (Bool × BlockError)} {data : Buf}
    (h : (∀ c ∈ checks, c.1 = false) → blockWriteOk addr data = true) :
    Fits addr data.length (firstOf checks data) := by
  intro v hv
  obtain ⟨hchecks, rfl⟩ := firstOf_eq_ok_iff.mp hv
  exact ⟨rfl, h hchecks⟩

theorem fits_control1Bytes (c : Control1In) : Fits 0x00 1 (control1Bytes c) := by
  obtain ⟨cap, stop, twelve, si, ai, ci⟩ := c
  cases cap with
  | cap7pF =>
    refine fits_byte ?_
    simpa only [flag, Bool.false_eq_true, if_false, Nat.zero_add] using
      registerWriteOk_control1 false stop twelve si ai ci
  | cap12_5pF => exact fits_byte (registerWriteOk_control1 true stop twelve si ai ci)
  | other tag => exact fits_error 0x00 1 _

theorem fits_control2Bytes (c : Control2In) : Fits 0x01 1 (control2Bytes c) :=
  fits_byte (registerWriteOk_control2 ..)

theorem fits_control3Bytes (c : Control3In) : Fits 0x02 1 (control3Bytes c) := by
  simp only [control3Bytes]
  split
  · exact fits_error 0x02 1 _
  · exact fits_byte (registerWriteOk_control3 _ _ _ _ _ _ ‹_›)

theorem fits_timeGroupBytes (t : TimeIn) (mode : HourMode) (century : Int) :
    Fits 0x03 7 (timeGroupBytes t mode century) := by
  refine fits_firstOf fun hchecks => ?_
  simp only [List.forall_mem_cons, out_eq_false_iff, decide_eq_false_iff_not] at hchecks
  obtain ⟨⟨hs0, hs1⟩, ⟨hm0, hm1⟩, -, hhour, ⟨hd0, hd1⟩, ⟨hw0, hw1⟩, ⟨hmo0, hmo1⟩, hy0, hy1, -⟩ := hchecks
  have hyear0 : 0 ≤ t.year4digit - century := by omega
  have hyear1 : t.year4digit - century ≤ 99 := by omega
  simp only [blockWriteOk_cons]
  exact ⟨registerWriteOk_timeDigits (0x03, 0, 59) (by decide) _ hs0 hs1,
    registerWriteOk_timeDigits (0x04, 0, 59) (by decide) _ hm0 hm1, registerWriteOk_hourNum t.pm hhour,
    registerWriteOk_timeDigits (0x06, 1, 31) (by decide) _ hd0 hd1, (registerWriteOk_weekday _ hw0 hw1 false).1,
    registerWriteOk_timeDigits (0x08, 1, 12) (by decide) _ hmo0 hmo1,
    registerWriteOk_timeDigits (0x09, 0, 99) (by decide) _ hyear0 hyear1, rfl⟩

theorem fits_alarmBytes (a : AlarmIn) (mode : HourMode) : Fits 0x0A 4 (alarmBytes a mode) := by
  refine fits_firstOf fun hchecks => ?_
  simp only [List.forall_mem_cons, out_eq_false_iff] at hchecks
  obtain ⟨⟨hm0, hm1⟩, -, hhour, ⟨hd0, hd1⟩, ⟨hw0, hw1⟩, -⟩ := hchecks
  simp only [blockWriteOk_cons]
  exact ⟨registerWriteOk_alarmDigits (0x0A, 0, 59) (by decide) _ hm0 hm1 _,
    registerWriteOk_alarmHourNum a.pm _ hhour,
    registerWriteOk_alarmDigits (0x0C, 1, 31) (by decide) _ hd0 hd1 _,
    (registerWriteOk_weekday _ hw0 hw1 _).2, rfl⟩

theorem fits_offsetBytes (o : OffsetIn) : Fits 0x0E 1 (offsetBytes o) :=
  fits_firstOf fun _ => blockWriteOk_singleton (registerWriteOk_unrestricted (by decide) _)

theorem fits_timerControlByte (c : TimerControlIn) : Fits 0x0F 1 (.ok [timerControlByte c]) :=
  fits_byte (registerWriteOk_unrestricted (by decide) _)

/-- Both timer values have the whole byte (R43, R45). -/
theorem fits_timerValueBytes {addr : Nat} (h : addr ∈ [0x11, 0x13]) (v : TimerValueIn) :
    Fits addr 1 (timerValueBytes v) :=
  fits_firstOf fun _ => blockWriteOk_singleton (registerWriteOk_unrestricted (.tail _ (.tail _ h)) _)

theorem fits_timerBlockBytes (t : TimerBlockIn) : Fits 0x0F 5 (timerBlockBytes t) := by
  refine fits_firstOf fun _ => ?_
  simp only [blockWriteOk_cons]
  exact ⟨registerWriteOk_unrestricted (by decide) _, registerWriteOk_timerAFreqByte _,
    registerWriteOk_unrestricted (by decide) _, registerWriteOk_timerBFreqByte _,
    registerWriteOk_unrestricted (by decide) _, rfl⟩

end Sys2Proof.Proofs
end

section
/-! The three kinds of operation (20_memory.md R61, 45_marshalling.md R210), and the transactions an operation issues
(R230, R231): its row and what it sends say them, whatever the state. -/

namespace Sys2Proof.Proofs

open Sys2Proof.Machine Sys2Proof.Spec

/-! ## Kinds -/

/-- What the encode answers is `n` bytes that may be written at `addr` (Safety.lean). -/
def Writable (addr : Byte) (n : Nat) (enc : Except BlockError Buf) : Prop :=
  ∀ v, enc = .ok v → v.length = n ∧ transactionAllowed (.write addr v) = true

theorem Fits.writable {addr : Byte} {n : Nat} {enc : Except BlockError Buf} (h : Fits addr.toNat n enc)
    (hlisted : (addr.toNat, n) ∈ listedWrites) : Writable addr n enc := by
  intro v hv
  obtain ⟨rfl, hformat⟩ := h v hv
  exact ⟨rfl, by simp [transactionAllowed, hlisted, hformat]⟩

/-- The soft reset's byte is allowed by itself: it is no Control1 encoding (R229). -/
theorem writable_softReset : Writable 0x00 1 (.ok [0x58]) := by
  rintro v ⟨⟩
  exact ⟨rfl, rfl⟩

/-- What kind of operation `i` is, with its row of R230, what it sends, and its meaning in every state. -/
inductive Kind (i : Instr) : Prop where
  | codec (hrow : row i = none) (hsent : ∀ cfg, sent cfg i = none) (hexec : RespondsAlike i)
  | get (addr : Byte) (n : Nat) (dec : Cfg → Buf → Except BlockError Value)
      (hrow : row i = some ⟨false, addr.toNat, n⟩) (hsent : ∀ cfg, sent cfg i = none)
      (hallowed : transactionAllowed (.read addr n) = true)
      (hexec : ∀ s, exec i s = getGroup s addr n (dec s.cfg))
  | set (addr : Byte) (n : Nat) (enc : Cfg → Except BlockError Buf)
      (hrow : row i = some ⟨true, addr.toNat, n⟩) (hsent : ∀ cfg, sent cfg i = some (enc cfg))
      (hallowed : ∀ cfg, Writable addr n (enc cfg))
      (hexec : ∀ s, exec i s = setRange s addr (enc s.cfg))

theorem Kind.of_fits {i : Instr} (addr : Byte) (n : Nat) (enc : Cfg → Except BlockError Buf)
    (hexec : ∀ s, exec i s = setRange s addr (enc s.cfg)) (hfits : ∀ cfg, Fits addr.toNat n (enc cfg))
    (hlisted : (addr.toNat, n) ∈ listedWrites) (hrow : row i = some ⟨true, addr.toNat, n⟩)
    (hsent : ∀ cfg, sent cfg i = some (enc cfg)) : Kind i :=
  .set addr n enc hrow hsent (fun cfg => (hfits cfg).writable hlisted) hexec

/-- Every operation is of one of the three kinds: the marshalling operations by their equations. -/
theorem kind (i : Instr) : Kind i := by
  cases i with
  | getProfile => exact .get 0x00 3 (fun _ => profileOf) rfl (fun _ => rfl) rfl exec_getProfile
  | getTime mode century =>
    exact .get 0x03 7 (fun cfg buf => timeOf buf (mode.getD cfg.hourMode) (century.getD cfg.century)) rfl (fun _ => rfl)
      rfl fun s => exec_getTime s mode century
  | getAlarm mode =>
    exact .get 0x0A 4 (fun cfg buf => alarmOf buf (mode.getD cfg.hourMode)) rfl (fun _ => rfl) rfl
      fun s => exec_getAlarm s mode
  | getOffset =>
    exact .get 0x0E 1 (fun _ buf => decoded1 buf fun b => .offset (offsetOf b)) rfl (fun _ => rfl) rfl exec_getOffset
  | getTimer => exact .get 0x0F 5 (fun _ => timerBlockOf) rfl (fun _ => rfl) rfl exec_getTimer
  | setControl1 c =>
    exact .of_fits 0x00 1 (fun _ => control1Bytes c) (fun s => exec_setControl1 s c) (fun _ => fits_control1Bytes c)
      (by decide) rfl fun _ => rfl
  | setControl2 c =>
    exact .of_fits 0x01 1 (fun _ => control2Bytes c) (fun s => exec_setControl2 s c) (fun _ => fits_control2Bytes c)
      (by decide) rfl fun _ => rfl
  | setControl3 c =>
    exact .of_fits 0x02 1 (fun _ => control3Bytes c) (fun s => exec_setControl3 s c) (fun _ => fits_control3Bytes c)
      (by decide) rfl fun _ => rfl
  | setTime t mode century =>
    exact .of_fits 0x03 7 (fun cfg => timeGroupBytes t (mode.getD cfg.hourMode) (century.getD cfg.century))
      (fun s => exec_setTime s mode century t) (fun _ => fits_timeGroupBytes t _ _) (by decide) rfl fun _ => rfl
  | setAlarm a mode =>
    exact .of_fits 0x0A 4 (fun cfg => alarmBytes a (mode.getD cfg.hourMode)) (fun s => exec_setAlarm s mode a)
      (fun _ => fits_alarmBytes a _) (by decide) rfl fun _ => rfl
  | setOffset o =>
    exact .of_fits 0x0E 1 (fun _ => offsetBytes o) (fun s => exec_setOffset s o) (fun _ => fits_offsetBytes o)
      (by decide) rfl fun _ => rfl
  | setTimer t =>
    exact .of_fits 0x0F 5 (fun _ => timerBlockBytes t) (fun s => exec_setTimer s t) (fun _ => fits_timerBlockBytes t)
      (by decide) rfl fun _ => rfl
  | setTimerControl c =>
    exact .of_fits 0x0F 1 (fun _ => .ok [timerControlByte c]) (fun s => exec_setTimerControl s c)
      (fun _ => fits_timerControlByte c) (by decide) rfl fun _ => rfl
  | setTimerAFreq f =>
    exact .of_fits 0x10 1 (fun _ => .ok [timerAFreqByte f]) (fun s => exec_setTimerAFreq s f)
      (fun _ => fits_byte (registerWriteOk_timerAFreqByte f)) (by decide) rfl fun _ => rfl
  | setTimerAValue v =>
    exact .of_fits 0x11 1 (fun _ => timerValueBytes v) (fun s => exec_setTimerAValue s v)
      (fun _ => fits_timerValueBytes (by decide) v) (by decide) rfl fun _ => rfl
  | setTimerBFreq f =>
    exact .of_fits 0x12 1 (fun _ => .ok [timerBFreqByte f]) (fun s => exec_setTimerBFreq s f)
      (fun _ => fits_byte (registerWriteOk_timerBFreqByte f)) (by decide) rfl fun _ => rfl
  | setTimerBValue v =>
    exact .of_fits 0x13 1 (fun _ => timerValueBytes v) (fun s => exec_setTimerBValue s v)
      (fun _ => fits_timerValueBytes (by decide) v) (by decide) rfl fun _ => rfl
  | softReset =>
    exact .set 0x00 1 (fun _ => .ok [0x58]) rfl (fun _ => rfl) (fun _ => writable_softReset) exec_softReset
  | _ => exact .codec rfl (fun _ => rfl) ⟨_, fun _ => rfl⟩

/-! ## Transactions -/

/-- The transactions `i` issues in configuration `cfg`, by its row and what it sends: a GET's read; a SET's write of the
encoded bytes, or none where the encode fails. -/
def issued (cfg : Cfg) (i : Instr) : List Transaction :=
  match row i, sent cfg i with
  | some r, none => [.read (byteOf r.addr) r.len]
  | some r, some (.ok v) => [.write (byteOf r.addr) v]
  | _, _ => []

theorem byteOf_toNat (b : Byte) : byteOf b.toNat = b := by simp [byteOf]

variable {i : Instr} {s s' : State} {cfg : Cfg} {addr : Byte} {n : Nat} {t : Transaction}

theorem issued_of_codec (hrow : row i = none) : issued cfg i = [] := by
  simp only [issued, hrow]

theorem issued_of_get (hrow : row i = some ⟨false, addr.toNat, n⟩) (hsent : sent cfg i = none) :
    issued cfg i = [.read addr n] := by
  simp only [issued, hrow, hsent, byteOf_toNat]

theorem issued_of_set_error {e : BlockError} (hrow : row i = some ⟨true, addr.toNat, n⟩)
    (hsent : sent cfg i = some (.error e)) : issued cfg i = [] := by
  simp only [issued, hrow, hsent]

theorem issued_of_set_ok {v : Buf} (hrow : row i = some ⟨true, addr.toNat, n⟩) (hsent : sent cfg i = some (.ok v)) :
    issued cfg i = [.write addr v] := by
  simp only [issued, hrow, hsent, byteOf_toNat]

/-- An operation that has a next state has issued exactly its transactions. -/
theorem busLog_of_exec (h : exec i s = .next s') : s'.busLog = s.busLog ++ issued s.cfg i := by
  cases kind i with
  | codec hrow hsent hexec => rw [hexec.busLog_eq h, issued_of_codec hrow, List.append_nil]
  | get addr n dec hrow hsent _ hexec =>
    obtain ⟨reply, -, rfl⟩ := getGroup_next ((hexec s).symm.trans h)
    rw [answer_busLog, issue_busLog, issued_of_get hrow (hsent _)]
  | set addr n enc hrow hsent _ hexec =>
    rcases setRange_next ((hexec s).symm.trans h) with ⟨e, henc, rfl⟩ | ⟨v, reply, henc, -, rfl⟩
    · rw [raise_busLog, issued_of_set_error hrow ((hsent _).trans (congrArg some henc)), List.append_nil]
    · rw [answer_busLog, issue_busLog, issued_of_set_ok hrow ((hsent _).trans (congrArg some henc))]

/-- A transaction of an operation is the one its row lists, and one the block may issue (Safety.lean). -/
theorem ofRow_and_allowed_of_mem_issued (h : t ∈ issued cfg i) :
    (∃ r, row i = some r ∧ ofRow r t) ∧ transactionAllowed t = true := by
  cases kind i with
  | codec hrow _ _ =>
    rw [issued_of_codec hrow] at h
    cases h
  | get addr n dec hrow hsent hallowed _ =>
    rw [issued_of_get hrow (hsent _), List.mem_singleton] at h
    subst h
    exact ⟨⟨_, hrow, rfl⟩, hallowed⟩
  | set addr n enc hrow hsent hallowed _ =>
    cases henc : enc cfg with
    | error e =>
      rw [issued_of_set_error hrow ((hsent _).trans (congrArg some henc))] at h
      cases h
    | ok v =>
      rw [issued_of_set_ok hrow ((hsent _).trans (congrArg some henc)), List.mem_singleton] at h
      subst h
      obtain ⟨rfl, hwrite⟩ := hallowed cfg v henc
      exact ⟨⟨_, hrow, rfl⟩, hwrite⟩

theorem length_issued_le_one (cfg : Cfg) (i : Instr) : (issued cfg i).length ≤ 1 := by
  unfold issued
  split <;> simp

theorem length_issued_of_get {r : Row} (hrow : row i = some r) (hread : r.isWrite = false) :
    (issued cfg i).length = 1 := by
  cases kind i with
  | codec hnone _ _ => cases hnone.symm.trans hrow
  | get addr n dec hget hsent _ _ => rw [issued_of_get hget (hsent _), List.length_singleton]
  | set addr n enc hset _ _ _ =>
    cases hset.symm.trans hrow
    cases hread

/-- A step leaves the bus, the image and the traffic alone, or is the operation it performs. -/
theorem step_quiet_or_exec (h : step s = .next s') :
    (s'.bus = s.bus ∧ s'.img = s.img ∧ s'.busLog = s.busLog) ∨ ∃ i, exec i s = .next s' := by
  rcases step_next h with ⟨-, rfl⟩ | ⟨-, -, rfl⟩ | ⟨-, r, -, hperform⟩
  · exact .inl ⟨rfl, rfl, rfl⟩
  · exact .inl ⟨finish_bus s, finish_img s, finish_busLog s⟩
  · rcases performRequest_next hperform with ⟨e, rfl⟩ | ⟨i, -, hexec⟩
    · exact .inl ⟨raise_bus s e, raise_img s e, raise_busLog s e⟩
    · exact .inr ⟨i, hexec⟩

/-- Settles O52: the transactions of an operation are `issued`. -/
theorem transactionTable : Obligations.TransactionTable := by
  unfold Obligations.TransactionTable
  constructor
  · intro i s s' h
    refine ⟨issued s.cfg i, busLog_of_exec h, length_issued_le_one _ _,
      fun t ht => (ofRow_and_allowed_of_mem_issued ht).1, fun r => length_issued_of_get, ?_⟩
    rintro rfl
    rfl
  · intro s s' h
    rcases step_quiet_or_exec h with ⟨-, -, hlog⟩ | ⟨i, hexec⟩
    · exact ⟨[], by rw [hlog, List.append_nil], by simp, by simp⟩
    · exact ⟨issued s.cfg i, busLog_of_exec hexec, length_issued_le_one _ _,
        fun t ht => ⟨i, (ofRow_and_allowed_of_mem_issued ht).1⟩⟩

/-! ## No read-modify-write -/

/-- A write row lists no read. -/
theorem isWrite_of_ofRow {r : Row} (h : ofRow r t) (hr : r.isWrite = true) : isWrite t := by
  cases t with
  | read a n =>
    cases h
    cases hr
  | write a v => trivial

/-- Settles O54: `issued` is a function of the configuration and the operation. -/
theorem noReadModifyWrite : Obligations.NoReadModifyWrite := by
  unfold Obligations.NoReadModifyWrite
  intro i s₁ s₂ s₁' s₂' l₁ l₂ hcfg h₁ h₂ hl₁ hl₂
  have hl₁' : l₁ = issued s₁.cfg i := List.append_cancel_left (hl₁.symm.trans (busLog_of_exec h₁))
  have hl₂' : l₂ = issued s₂.cfg i := List.append_cancel_left (hl₂.symm.trans (busLog_of_exec h₂))
  refine ⟨by rw [hl₁', hl₂', hcfg], ?_⟩
  rintro ⟨r, hrow, hr⟩ t ht
  obtain ⟨⟨r', hrow', hof⟩, -⟩ := ofRow_and_allowed_of_mem_issued (hl₁' ▸ ht)
  cases hrow.symm.trans hrow'
  exact isWrite_of_ofRow hof hr

/-! ## The image's frame -/

/-- An operation leaves the image alone, or stores the block of a write it issues. -/
theorem img_of_exec (h : exec i s = .next s') :
    s'.img = s.img ∨ ∃ a v, .write a v ∈ issued s.cfg i ∧ s'.img = s.img.writeBlock a v := by
  have hlog := busLog_of_exec h
  rcases exec_nextShape i h with ⟨r, rfl⟩ | ⟨t, reply, r, -, rfl⟩
  · exact .inl (answer_img s r)
  · rw [answer_img, issue_img]
    refine (busAnswer_img s t).imp_right ?_
    rintro ⟨a, v, rfl, himg⟩
    rw [answer_busLog, issue_busLog] at hlog
    exact ⟨a, v, by rw [← List.append_cancel_left hlog]; exact List.mem_singleton_self _, himg⟩

/-- Every row ends by the last register (R24): no transaction wraps. -/
theorem row_le_last {r : Row} (h : row i = some r) : r.addr + r.len ≤ 0x14 := by
  unfold row at h
  split at h
  all_goals cases h
  all_goals decide

/-- Settles O53: a store is the block of a write, and the write is the row's. -/
theorem storesOnlyItsRegisters : Obligations.StoresOnlyItsRegisters := by
  unfold Obligations.StoresOnlyItsRegisters
  intro i s s' h a houtside
  rcases img_of_exec h with himg | ⟨addr, v, hmem, himg⟩
  · rw [himg]
  · obtain ⟨⟨r, hrow, hof⟩, -⟩ := ofRow_and_allowed_of_mem_issued hmem
    cases hof
    have hlast : addr.toNat + v.length ≤ 0x14 := row_le_last hrow
    rw [himg]
    exact readByte_writeBlock_outside s.img addr v a (by omega) (houtside _ hrow rfl)

end Sys2Proof.Proofs
end

section
/-! What an operation answers (45_marshalling.md R234, 10_state.md R48), and where it stops: a response needs the bus's
answer, and an answer is missing only where the oracle's schedule says so (R233, logs 8 and 9). -/

namespace Sys2Proof.Proofs

open Sys2Proof.Machine Sys2Proof.Spec

variable {i : Instr} {s s' : State}

/-! ## Responses -/

theorem responded_answer (s : State) (r : Except BlockError Value) : responded s (s.answer r) r := by
  rw [← answered_eq_answer]
  exact ⟨rfl, rfl, rfl⟩

/-- A transaction leaves the trace, the program index and the status as they were. -/
theorem responded_issue_answer (s : State) (t : Transaction) (r : Except BlockError Value) :
    responded s ((issue s t).2.answer r) r := by
  cases r <;> exact ⟨rfl, rfl, rfl⟩

/-- Settles O55: a GET or SET responds by the reply it gets, and the two replies are the same. -/
theorem responsesIgnoreHistory : Obligations.ResponsesIgnoreHistory := by
  unfold Obligations.ResponsesIgnoreHistory
  intro i s₁ s₂ s₁' s₂' hcfg hbus h₁ h₂
  have hreply {t : Transaction} {r₁ r₂ : BusReply} (h₁ : (issue s₁ t).1 = some r₁) (h₂ : (issue s₂ t).1 = some r₂) :
      r₁ = r₂ := Option.some.inj (h₁.symm.trans ((hbus t).trans h₂))
  cases kind i with
  | codec _ _ hexec =>
    obtain ⟨r, hr⟩ := hexec
    obtain rfl := respond_next.mp ((hr s₁).symm.trans h₁)
    obtain rfl := respond_next.mp ((hr s₂).symm.trans h₂)
    exact ⟨r, responded_answer s₁ r, responded_answer s₂ r⟩
  | get addr n dec _ _ _ hexec =>
    obtain ⟨r₁, hr₁, rfl⟩ := getGroup_next ((hexec s₁).symm.trans h₁)
    obtain ⟨r₂, hr₂, rfl⟩ := getGroup_next ((hexec s₂).symm.trans h₂)
    obtain rfl := hreply hr₁ hr₂
    exact ⟨_, responded_issue_answer s₁ _ _, hcfg ▸ responded_issue_answer s₂ _ _⟩
  | set addr n enc _ _ _ hexec =>
    have hset₁ := (hexec s₁).symm.trans h₁
    have hset₂ := (hexec s₂).symm.trans h₂
    rw [hcfg] at hset₁
    cases henc : enc s₂.cfg with
    | error e =>
      rw [henc] at hset₁ hset₂
      cases hset₁
      cases hset₂
      exact ⟨.error e, responded_answer s₁ _, responded_answer s₂ _⟩
    | ok v =>
      rw [henc] at hset₁ hset₂
      obtain ⟨r₁, hr₁, rfl⟩ := putRange_next hset₁
      obtain ⟨r₂, hr₂, rfl⟩ := putRange_next hset₂
      obtain rfl := hreply hr₁ hr₂
      exact ⟨_, responded_issue_answer s₁ _ _, responded_issue_answer s₂ _ _⟩

/-! ## Stops -/

theorem exec_get_unanswered {r : Row} {rest : List (Option BusReply)} (hbus : s.bus = .oracle (none :: rest))
    (hrow : row i = some r) (hread : r.isWrite = false) : exec i s = .fault .busNeverAnswers := by
  cases kind i with
  | codec hnone _ _ => cases hnone.symm.trans hrow
  | get addr n dec _ _ _ hexec =>
    rw [hexec, getGroup_unanswered (congrArg Prod.fst (busAnswer_scheduled hbus))]
  | set addr n enc hset _ _ _ =>
    cases hset.symm.trans hrow
    cases hread

theorem exec_set_unanswered {v : Buf} {rest : List (Option BusReply)} (hbus : s.bus = .oracle (none :: rest))
    (hsends : sent s.cfg i = some (.ok v)) : exec i s = .fault .busNeverAnswers := by
  cases kind i with
  | codec _ hsent _ | get _ _ _ _ hsent _ _ => cases (hsent _).symm.trans hsends
  | set addr n enc _ hsent _ hexec =>
    have henc : enc s.cfg = .ok v := Option.some.inj ((hsent _).symm.trans hsends)
    rw [hexec, henc, setRange_ok, putRange_unanswered (congrArg Prod.fst (busAnswer_scheduled hbus))]

/-- The bus's answer decides between a next state and the one fault. -/
theorem getGroup_next_or_fault (s : State) (addr : Byte) (n : Nat) (dec : Buf → Except BlockError Value) :
    (∃ s', getGroup s addr n dec = .next s') ∨
      (getGroup s addr n dec = .fault .busNeverAnswers ∧ ∃ rest, s.bus = .oracle (none :: rest)) := by
  cases h : (busAnswer s (.read addr n)).1 with
  | none => exact .inr ⟨getGroup_unanswered h, busAnswer_none h⟩
  | some r => exact .inl ⟨_, getGroup_answered h⟩

theorem setRange_next_or_fault (s : State) (addr : Byte) (enc : Except BlockError Buf) :
    (∃ s', setRange s addr enc = .next s') ∨
      (setRange s addr enc = .fault .busNeverAnswers ∧ ∃ rest, s.bus = .oracle (none :: rest)) := by
  cases enc with
  | error e => exact .inl ⟨_, setRange_error⟩
  | ok v =>
    cases h : (busAnswer s (.write addr v)).1 with
    | none => exact .inr ⟨putRange_unanswered h, busAnswer_none h⟩
    | some r => exact .inl ⟨_, putRange_answered h⟩

theorem exec_next_or_fault (i : Instr) (s : State) :
    (∃ s', exec i s = .next s') ∨
      (exec i s = .fault .busNeverAnswers ∧ (∃ r, row i = some r) ∧ ∃ rest, s.bus = .oracle (none :: rest)) := by
  cases kind i with
  | codec _ _ hexec =>
    obtain ⟨r, hr⟩ := hexec
    exact .inl ⟨_, hr s⟩
  | get addr n dec hrow _ _ hexec =>
    rw [hexec]
    exact (getGroup_next_or_fault s addr n _).imp_right fun ⟨hfault, hbus⟩ => ⟨hfault, ⟨_, hrow⟩, hbus⟩
  | set addr n enc hrow _ _ hexec =>
    rw [hexec]
    exact (setRange_next_or_fault s addr _).imp_right fun ⟨hfault, hbus⟩ => ⟨hfault, ⟨_, hrow⟩, hbus⟩

theorem step_of_fetch_none (hrun : s.status = .running) (hfetch : fetch s = none) : step s = .next s.finish := by
  simp only [step, turn, hrun, hfetch]

/-- A step goes on, stops at the missing answer, or refuses an assigned selector with another selector's record: the
outcomes of dispatch's three checks (30_encoding.md R81). -/
theorem step_next_or_stop (s : State) :
    (∃ s', step s = .next s') ∨
      (step s = .fault .busNeverAnswers ∧ ∃ rest, s.bus = .oracle (none :: rest)) ∨
      ∃ r, s.prog[s.pc]? = some r ∧ recordMatches r.sel r.ops = false ∧ selectorAssigned r.sel = true ∧
        step s = .refused (.operandMismatch r.sel) := by
  by_cases hrun : s.status = .running
  case neg => exact .inl ⟨s, step_ended hrun⟩
  cases hfetch : fetch s with
  | none => exact .inl ⟨_, step_of_fetch_none hrun hfetch⟩
  | some r =>
    cases hsel : selectorAssigned r.sel with
    | false => exact .inl ⟨_, step_illegal hrun hfetch hsel⟩
    | true =>
      by_cases hu : r.sel ∈ s.unimplemented
      case pos => exact .inl ⟨_, step_unimplemented hrun hfetch hsel hu⟩
      cases hops : recordMatches r.sel r.ops with
      | false => exact .inr (.inr ⟨r, hfetch, hops, hsel, step_mismatch hrun hfetch hsel hu hops⟩)
      | true =>
        obtain ⟨i, hdecode, -⟩ := decode_of_recordMatches hops
        rw [stepRunsDecodedRequest s r i hrun hfetch hdecode hu]
        exact (exec_next_or_fault i s).imp_right fun ⟨hfault, _, hbus⟩ => .inl ⟨hfault, hbus⟩

/-- Settles O57: the missing answer stops what issues a transaction, and nothing else stops but dispatch's refusal. -/
theorem unansweredBusStops : Obligations.UnansweredBusStops := by
  unfold Obligations.UnansweredBusStops
  refine ⟨fun s rest hbus => ⟨fun i r => exec_get_unanswered hbus, fun i v => exec_set_unanswered hbus⟩,
    exec_next_or_fault, fun s => ?_⟩
  refine (step_next_or_stop s).imp_right (Or.imp_right ?_)
  rintro ⟨r, hfetch, hops, -, hstep⟩
  exact ⟨r, hfetch, hops, hstep⟩

end Sys2Proof.Proofs
end

section
/-! Steps and runs (45_marshalling.md R236): a request advances the run or halts it, every step keeps the invariant of
Safety.lean, and a run of well-formed requests on an answering bus ends. -/

namespace Sys2Proof.Proofs

open Sys2Proof.Machine Sys2Proof.Spec

variable {i : Instr} {s s' : State}

/-! ## One request -/

/-- A result joins the trace and the index advances, or an error halts the run where it stands. -/
def AdvancesOrHalts (s s' : State) : Prop :=
  (∃ v, s'.trace = s.trace ++ [v] ∧ s'.pc = s.pc + 1 ∧ s'.status = s.status) ∨
    ∃ e, s'.status = .faulted e ∧ s'.trace = s.trace ∧ s'.pc = s.pc

theorem AdvancesOrHalts.of_responded {r : Except BlockError Value} (h : responded s s' r) : AdvancesOrHalts s s' := by
  obtain ⟨htrace, hpc, hstatus⟩ := h
  cases r with
  | ok v => exact .inl ⟨v, htrace, hpc, hstatus⟩
  | error e => exact .inr ⟨e, hstatus, htrace, hpc⟩

theorem exec_advancesOrHalts (h : exec i s = .next s') : AdvancesOrHalts s s' := by
  rcases exec_nextShape i h with ⟨r, rfl⟩ | ⟨t, reply, r, -, rfl⟩
  · exact .of_responded (responded_answer s r)
  · exact .of_responded (responded_issue_answer s t r)

theorem performRequest_advancesOrHalts {r : Request} (h : performRequest s r = .next s') : AdvancesOrHalts s s' := by
  rcases performRequest_next h with ⟨e, rfl⟩ | ⟨i, -, hexec⟩
  · exact .inr ⟨e, rfl, rfl, rfl⟩
  · exact exec_advancesOrHalts hexec

theorem fetch_eq_none_iff : fetch s = none ↔ s.prog.length ≤ s.pc := List.getElem?_eq_none_iff

theorem pc_lt_of_fetch {r : Request} (h : fetch s = some r) : s.pc < s.prog.length :=
  (List.getElem?_eq_some_iff.mp h).1

/-- Below the program's end a step of a running state advances or halts the run. -/
theorem step_advancesOrHalts (hrun : s.status = .running) (hpc : s.pc < s.prog.length) (h : step s = .next s') :
    AdvancesOrHalts s s' := by
  rcases step_next h with ⟨hended, -⟩ | ⟨-, hfetch, -⟩ | ⟨-, r, -, hperform⟩
  · exact absurd hrun hended
  · exact absurd (fetch_eq_none_iff.mp hfetch) (by omega)
  · exact performRequest_advancesOrHalts hperform

theorem step_at_end (hrun : s.status = .running) (hpc : s.prog.length ≤ s.pc) : step s = .next s.finish :=
  step_of_fetch_none hrun (fetch_eq_none_iff.mpr hpc)

/-- Settles O58: by what one request does; at the program's end a step finishes the run. -/
theorem stepAdvancesOrEnds : Obligations.StepAdvancesOrEnds := by
  unfold Obligations.StepAdvancesOrEnds
  refine ⟨fun s s' hrun h => ?_, fun s => step_ended⟩
  split
  case isTrue hpc =>
    rw [← hrun]
    exact step_advancesOrHalts hrun hpc h
  case isFalse hpc =>
    rw [step_at_end hrun (by omega)] at h
    cases h
    rfl

/-! ## The invariant -/

theorem img_wf_of_exec (h : exec i s = .next s') (hwf : s.img.wf = true) : s'.img.wf = true := by
  rcases img_of_exec h with himg | ⟨a, v, -, himg⟩
  · rwa [himg]
  · rw [himg]
    exact wf_writeBlock s.img a v hwf

theorem step_img_wf (h : step s = .next s') (hwf : s.img.wf = true) : s'.img.wf = true := by
  rcases step_quiet_or_exec h with ⟨-, himg, -⟩ | ⟨i, hexec⟩
  · rwa [himg]
  · exact img_wf_of_exec hexec hwf

theorem step_busLog_allowed (h : step s = .next s') (hlog : s.busLog.all transactionAllowed = true) :
    s'.busLog.all transactionAllowed = true := by
  rcases step_quiet_or_exec h with ⟨-, -, hsame⟩ | ⟨i, hexec⟩
  · rwa [hsame]
  · rw [busLog_of_exec hexec, List.all_append, hlog, Bool.true_and, List.all_eq_true]
    exact fun t ht => (ofRow_and_allowed_of_mem_issued ht).2

/-- The bookkeeping of the invariant: a trace entry per performed request, and a standing that fits the index. -/
def Bookkeeping (s : State) : Prop :=
  s.trace.length = s.pc ∧ s.pc ≤ s.prog.length ∧ statusFits s.status s.pc s.prog.length = true

/-- The index was below the program's end: it stays within it, and may be where an error halted the run. -/
theorem AdvancesOrHalts.bookkeeping (h : AdvancesOrHalts s s') (hrun : s.status = .running)
    (hpc : s.pc < s.prog.length) (htrace : s.trace.length = s.pc) (hprog : s'.prog = s.prog) : Bookkeeping s' := by
  rcases h with ⟨v, htrace', hpc', hstatus'⟩ | ⟨e, hstatus', htrace', hpc'⟩
  · refine ⟨by rw [htrace', hpc', List.length_append, htrace]; rfl, by rw [hpc', hprog]; exact hpc, ?_⟩
    rw [hstatus', hrun]
    rfl
  · refine ⟨by rw [htrace', hpc', htrace], by rw [hpc', hprog]; exact hpc.le, ?_⟩
    rw [hstatus', hpc', hprog]
    exact decide_eq_true hpc

theorem step_bookkeeping (hs : Bookkeeping s) (h : step s = .next s') : Bookkeeping s' := by
  have ⟨htrace, hle, _⟩ := hs
  obtain ⟨-, -, hprog⟩ := step_sameSetup h
  rcases step_next h with ⟨-, rfl⟩ | ⟨-, hfetch, rfl⟩ | ⟨hrun, r, hfetch, hperform⟩
  · exact hs
  · exact ⟨htrace, hle, beq_iff_eq.mpr (hle.antisymm (fetch_eq_none_iff.mp hfetch))⟩
  · exact (performRequest_advancesOrHalts hperform).bookkeeping hrun (pc_lt_of_fetch hfetch) htrace hprog

/-- Settles O3: the bookkeeping by what one request does, the image by its writes, and the traffic because every
transaction an operation issues is allowed. -/
theorem stepKeepsInvariant : Obligations.StepKeepsInvariant := by
  unfold Obligations.StepKeepsInvariant
  rintro s s' ⟨htrace, hpc, hstatus, hwf, hlog⟩ h
  obtain ⟨htrace', hpc', hstatus'⟩ := step_bookkeeping ⟨htrace, hpc, hstatus⟩ h
  exact ⟨htrace', hpc', hstatus', step_img_wf h hwf, step_busLog_allowed h hlog⟩

/-! ## Runs -/

/-- The bus has no unanswered transaction scheduled. -/
def Answering (bus : Bus) : Prop := ∀ l, bus = .oracle l → none ∉ l

theorem answering_busAnswer {t : Transaction} (h : Answering s.bus) : Answering (busAnswer s t).2.1 := by
  unfold busAnswer
  split
  case h_2 r rest hbus =>
    rintro l ⟨⟩ hmem
    exact h _ hbus (List.mem_cons_of_mem r hmem)
  case h_1 =>
    rintro l ⟨⟩
    exact List.not_mem_nil
  case h_3 => rintro l ⟨⟩
  all_goals split <;> rintro l ⟨⟩

theorem answering_of_step (h : step s = .next s') (hbus : Answering s.bus) : Answering s'.bus := by
  rcases step_quiet_or_exec h with ⟨hsame, -, -⟩ | ⟨i, hexec⟩
  · rwa [hsame]
  · rcases exec_nextShape i hexec with ⟨r, rfl⟩ | ⟨t, reply, r, -, rfl⟩
    · rwa [answer_bus]
    · rw [answer_bus]
      exact answering_busAnswer hbus

/-- A well-formed program on an answering bus never stops: a refused record would be neither its selector's nor one with
an illegal selector. -/
theorem step_next_of_wellFormed (hprog : programWellFormed s.prog = true) (hbus : Answering s.bus) :
    ∃ s', step s = .next s' := by
  rcases step_next_or_stop s with hnext | ⟨-, rest, hrest⟩ | ⟨r, hr, hops, hsel, -⟩
  · exact hnext
  · exact absurd List.mem_cons_self (hbus _ hrest)
  · have hwf := List.all_eq_true.mp hprog r (List.mem_of_getElem? hr)
    simp [Request.wellFormed, hops, hsel] at hwf

/-- `t` is where the run of `s` ends: done at the program's end, or halted below it, one result per performed request
added to the trace. -/
def EndOfRun (s t : State) : Prop :=
  t.cfg = s.cfg ∧ t.prog = s.prog ∧ s.trace <+: t.trace ∧ t.trace.length = t.pc ∧
    ((t.status = .done ∧ t.pc = s.prog.length) ∨ ∃ e, t.status = .faulted e ∧ t.pc < s.prog.length)

/-- The end of the run is the same seen from an earlier state. -/
theorem EndOfRun.of_next {t : State} (h : EndOfRun s' t) (hsetup : SameSetup s s') (htrace : s.trace <+: s'.trace) :
    EndOfRun s t := by
  obtain ⟨hcfg, -, hprog⟩ := hsetup
  obtain ⟨hcfg', hprog', htrace', hlength, hend⟩ := h
  rw [hprog] at hprog' hend
  exact ⟨hcfg'.trans hcfg, hprog', htrace.trans htrace', hlength, hend⟩

/-- With `k` requests left, `k + 1` steps reach the end of the run. -/
theorem run_reaches_end (k : Nat) (s : State) (hk : s.pc + k = s.prog.length) (hrun : s.status = .running)
    (htrace : s.trace.length = s.pc) (hprog : programWellFormed s.prog = true) (hbus : Answering s.bus) :
    ∃ t, Host.Core.run Sys2Proof.core (k + 1) s = .next t ∧ EndOfRun s t := by
  induction k generalizing s with
  | zero =>
    have hfinish := step_at_end hrun hk.ge
    exact ⟨s.finish, run_next 0 hfinish, rfl, rfl, List.prefix_rfl, htrace, .inl ⟨rfl, hk⟩⟩
  | succ k ih =>
    obtain ⟨s', hstep⟩ := step_next_of_wellFormed hprog hbus
    have hsetup := step_sameSetup hstep
    have ⟨hcfg', _, hprog'⟩ := hsetup
    rw [run_next (k + 1) hstep]
    have hpc : s.pc < s.prog.length := by omega
    rcases step_advancesOrHalts hrun hpc hstep with ⟨v, htrace', hpc', hstatus'⟩ | ⟨e, hstatus', htrace', hpc'⟩
    · have hlength : s'.trace.length = s'.pc := by rw [htrace', hpc', List.length_append, htrace]; rfl
      obtain ⟨t, ht, hend⟩ := ih s' (by rw [hpc', hprog']; omega) (hstatus'.trans hrun) hlength (by rwa [hprog'])
        (answering_of_step hstep hbus)
      exact ⟨t, ht, hend.of_next hsetup ⟨[v], htrace'.symm⟩⟩
    · have hended : s'.status ≠ .running := by simp [hstatus']
      exact ⟨s', run_ended hended _, hcfg', hprog', by rw [htrace'], by rw [htrace', hpc', htrace],
        .inr ⟨e, hstatus', by rwa [hpc']⟩⟩

/-- Settles O59: by induction on the number of requests left. -/
theorem runsEnd : Obligations.RunsEnd := by
  unfold Obligations.RunsEnd
  intro s hrun hpc htrace hprog hbus
  exact run_reaches_end _ s (Nat.add_sub_cancel' hpc) hrun htrace hprog hbus

end Sys2Proof.Proofs
end

section
/-! Errors (60_exceptions.md R240-R243): an operation that does not complete ends in its one error, with a transaction
only where the bus or a GET's decode raised it; and the kinds of error each operation can raise are those the cause
table of R241 lists for its selector. -/

namespace Sys2Proof.Proofs

open Sys2Proof.Machine Sys2Proof.Spec

variable {i : Instr} {s s' : State} {e : BlockError}

/-! ## Precise errors -/

/-- A response that leaves the program index where it was is an error. -/
theorem error_of_pc_eq {r : Except BlockError Value} (hpc : (s.answer r).pc = s.pc) : ∃ e, r = .error e := by
  cases r with
  | ok v => exact absurd hpc (Nat.succ_ne_self s.pc)
  | error e => exact ⟨e, rfl⟩

/-- The only error a write's answer brings is `BusError`. -/
theorem writeResult_eq_error {reply : BusReply} (h : writeResult reply = .error e) : e.kind = .busError := by
  cases reply with
  | ok v => cases h
  | error m =>
    cases h
    rfl

/-- An operation that does not complete raises its error at once, or after one transaction: then the operation is a GET,
or the error is the bus's. -/
theorem exec_raises (h : exec i s = .next s') (hpc : s'.pc = s.pc) :
    ∃ e, s' = s.raise e ∨
      ∃ t, s' = (issue s t).2.raise e ∧ (e.kind = .busError ∨ ∃ r, row i = some r ∧ r.isWrite = false) := by
  cases kind i with
  | codec _ _ hexec =>
    obtain ⟨r, hr⟩ := hexec
    obtain rfl := respond_next.mp ((hr s).symm.trans h)
    obtain ⟨e, rfl⟩ := error_of_pc_eq hpc
    exact ⟨e, .inl rfl⟩
  | get addr n dec hrow _ _ hexec =>
    obtain ⟨reply, -, rfl⟩ := getGroup_next ((hexec s).symm.trans h)
    obtain ⟨e, he⟩ := error_of_pc_eq hpc
    exact ⟨e, .inr ⟨_, by rw [he, answer_error], .inr ⟨_, hrow, rfl⟩⟩⟩
  | set addr n enc _ _ _ hexec =>
    rcases setRange_next ((hexec s).symm.trans h) with ⟨e, -, rfl⟩ | ⟨v, reply, -, -, rfl⟩
    · exact ⟨e, .inl rfl⟩
    · obtain ⟨e, he⟩ := error_of_pc_eq hpc
      exact ⟨e, .inr ⟨_, by rw [he, answer_error], .inl (writeResult_eq_error he)⟩⟩

/-- Settles O56: raising an error changes the status alone, and the transaction before it, if any, is a GET's or was
answered with the error. -/
theorem errorsArePrecise : Obligations.ErrorsArePrecise := by
  unfold Obligations.ErrorsArePrecise
  intro i s s' h hpc
  obtain ⟨e, rfl | ⟨t, rfl, hcause⟩⟩ := exec_raises h hpc
  · exact ⟨e, rfl, rfl, rfl, rfl, rfl, fun _ _ => ⟨rfl, rfl, rfl⟩⟩
  · refine ⟨e, rfl, rfl, rfl, rfl, rfl, fun hkind hwrites => ?_⟩
    rcases hcause with hbus | ⟨r, hrow, hread⟩
    · exact absurd hbus hkind
    · exact absurd (hwrites r hrow) (by simp [hread])

/-! ## The kinds of error a result can be -/

/-- An error of `r` is of one of `kinds`. -/
def RaisesOnly {α : Type} (kinds : List ErrorKind) (r : Except BlockError α) : Prop :=
  ∀ e, r = .error e → e.kind ∈ kinds

section Results

variable {α β : Type} {kinds : List ErrorKind}

theorem raisesOnly_ok (a : α) : RaisesOnly kinds (.ok a) := by
  rintro e ⟨⟩

theorem raisesOnly_error (h : e.kind ∈ kinds) : RaisesOnly kinds (.error e : Except BlockError α) := by
  rintro e' ⟨⟩
  exact h

theorem RaisesOnly.map {r : Except BlockError α} (h : RaisesOnly kinds r) (g : α → β) :
    RaisesOnly kinds (r.map g) := by
  cases r with
  | ok a => exact raisesOnly_ok (g a)
  | error e => exact raisesOnly_error (h e rfl)

theorem RaisesOnly.ite {c : Prop} [Decidable c] {r : Except BlockError α} (he : e.kind ∈ kinds)
    (h : RaisesOnly kinds r) : RaisesOnly kinds (if c then .error e else r) := by
  split
  · exact raisesOnly_error he
  · exact h

/-- A list of checks raises the errors it names. -/
theorem raisesOnly_firstOf {checks : List (Bool × BlockError)} (a : α)
    (h : (checks.all fun check => kinds.contains check.2.kind) = true) : RaisesOnly kinds (firstOf checks a) := by
  induction checks with
  | nil => exact raisesOnly_ok a
  | cons check rest ih =>
    rw [List.all_cons, Bool.and_eq_true, List.contains_iff_mem] at h
    rw [firstOf_cons]
    exact .ite h.1 (ih h.2)

theorem raisesOnly_needLength (need : Nat) (buf : Buf) (v : α) : RaisesOnly [.lengthError] (needLength need buf v) :=
  .ite (List.mem_singleton_self _) (raisesOnly_ok v)

end Results

/-! ## The codec, by the statements' checks -/

theorem raisesOnly_bitsExtract (b : Byte) (f : FieldDesc) : RaisesOnly [.rangeError] (bitsExtract b f) := by
  unfold bitsExtract
  split
  · exact raisesOnly_ok _
  · exact raisesOnly_error (List.mem_singleton_self _)

theorem raisesOnly_bitsPack (fs : List FieldDesc) (vs : List Int) : RaisesOnly [.rangeError] (bitsPack fs vs) :=
  have hrange (n : FieldName) : (rangeError n).kind ∈ [ErrorKind.rangeError] := List.mem_singleton_self _
  .ite (hrange _) (.ite (hrange _) (.ite (hrange _) (.ite (hrange _) (raisesOnly_ok _))))

theorem raisesOnly_bcdDecode (b : Byte) (tens units : FieldDesc) :
    RaisesOnly [.rangeError] (bcdDecode b tens units) :=
  bcdDecode_eq b tens units ▸ raisesOnly_firstOf _ rfl

theorem raisesOnly_bcdEncode (v : Int) (tens units : FieldDesc) : RaisesOnly [.rangeError] (bcdEncode v tens units) :=
  bcdEncode_eq v tens units ▸ raisesOnly_firstOf _ rfl

theorem raisesOnly_tc7Decode (raw : Int) : RaisesOnly [.rangeError] (tc7Decode raw) :=
  tc7Decode_eq raw ▸ raisesOnly_firstOf _ rfl

theorem raisesOnly_tc7Encode (v : Int) : RaisesOnly [.rangeError] (tc7Encode v) :=
  tc7Encode_eq v ▸ raisesOnly_firstOf _ rfl

theorem raisesOnly_yearEncode (y c : Int) : RaisesOnly [.rangeError] (yearEncode y c) :=
  yearEncode_eq y c ▸ raisesOnly_firstOf _ rfl

theorem raisesOnly_control1Encode (c : Control1In) : RaisesOnly [.unknownEnumError] (control1Encode c) := by
  rw [control1Encode_eq, control1Bytes]
  split
  · exact raisesOnly_ok _
  · exact raisesOnly_ok _
  · exact raisesOnly_error (List.mem_singleton_self _)

theorem raisesOnly_control2Encode (c : Control2In) : RaisesOnly [] (control2Encode c) :=
  control2Encode_eq c ▸ raisesOnly_ok _

theorem raisesOnly_control3Encode (c : Control3In) : RaisesOnly [.rangeError] (control3Encode c) :=
  control3Encode_eq c ▸ .ite (List.mem_singleton_self _) (raisesOnly_ok _)

theorem raisesOnly_timeEncode (t : TimeIn) (mode : HourMode) (century : Int) :
    RaisesOnly [.rangeError, .missingRequiredFieldError] (timeEncode t mode century) :=
  timeEncode_eq t mode century ▸ raisesOnly_firstOf _ rfl

theorem raisesOnly_alarmMinuteEncode (a : AlarmMinuteIn) : RaisesOnly [.rangeError] (alarmMinuteEncode a) :=
  alarmMinuteEncode_eq a ▸ raisesOnly_firstOf _ rfl

theorem raisesOnly_alarmHourEncode (a : AlarmHourIn) (mode : HourMode) :
    RaisesOnly [.rangeError, .missingRequiredFieldError] (alarmHourEncode a mode) :=
  alarmHourEncode_eq a mode ▸ raisesOnly_firstOf _ rfl

theorem raisesOnly_alarmDayEncode (a : AlarmDayIn) : RaisesOnly [.rangeError] (alarmDayEncode a) :=
  alarmDayEncode_eq a ▸ raisesOnly_firstOf _ rfl

theorem raisesOnly_alarmWeekdayEncode (a : AlarmWeekdayIn) : RaisesOnly [.rangeError] (alarmWeekdayEncode a) :=
  alarmWeekdayEncode_eq a ▸ raisesOnly_firstOf _ rfl

theorem raisesOnly_alarmEncode (a : AlarmIn) (mode : HourMode) :
    RaisesOnly [.rangeError, .missingRequiredFieldError] (alarmEncode a mode) :=
  alarmEncode_eq a mode ▸ raisesOnly_firstOf _ rfl

/-- The offset's seven bits are always a two's-complement number, so only the length can fail. -/
theorem raisesOnly_map_offsetDecode (buf : Buf) : RaisesOnly [.lengthError] ((offsetDecode buf).map Value.offset) := by
  rw [map_offsetDecode]
  cases buf with
  | nil => exact raisesOnly_error (List.mem_singleton_self _)
  | cons b rest => exact raisesOnly_ok _

theorem raisesOnly_offsetEncode (o : OffsetIn) : RaisesOnly [.rangeError] (offsetEncode o) :=
  offsetEncode_eq o ▸ raisesOnly_firstOf _ rfl

theorem raisesOnly_timerControlEncode (c : TimerControlIn) : RaisesOnly [] (timerControlEncode c) :=
  timerControlEncode_eq c ▸ raisesOnly_ok _

theorem raisesOnly_timerAFreqEncode (f : TimerAFreqIn) : RaisesOnly [] (timerAFreqEncode f) :=
  timerAFreqEncode_eq f ▸ raisesOnly_ok _

theorem raisesOnly_timerBFreqEncode (f : TimerBFreqIn) : RaisesOnly [] (timerBFreqEncode f) :=
  timerBFreqEncode_eq f ▸ raisesOnly_ok _

theorem raisesOnly_timerValueEncode (v : TimerValueIn) : RaisesOnly [.rangeError] (timerValueEncode v) :=
  timerValueEncode_eq v ▸ raisesOnly_firstOf _ rfl

theorem raisesOnly_timerBlockEncode (t : TimerBlockIn) : RaisesOnly [.rangeError] (timerBlockEncode t) :=
  timerBlockEncode_eq t ▸ raisesOnly_firstOf _ rfl

theorem raisesOnly_timerDuration (sourceClock ticks : Int) :
    RaisesOnly [.rangeError] (timerDuration sourceClock ticks) := by
  refine .ite (List.mem_singleton_self _) ?_
  split
  · exact raisesOnly_error (List.mem_singleton_self _)
  · exact raisesOnly_ok _

/-! ## The kinds of error an operation can raise -/

/-- An error that `i` ends in is of one of `kinds`, in every state. -/
def FaultsOnly (kinds : List ErrorKind) (i : Instr) : Prop :=
  ∀ ⦃s s' e⦄, exec i s = .next s' → s'.pc = s.pc → s'.status = .faulted e → e.kind ∈ kinds

theorem RaisesOnly.kind_mem {kinds : List ErrorKind} {r : Except BlockError Value} (h : RaisesOnly kinds r)
    (hpc : (s.answer r).pc = s.pc) (hstatus : (s.answer r).status = .faulted e) : e.kind ∈ kinds := by
  obtain ⟨e', rfl⟩ := error_of_pc_eq hpc
  cases hstatus
  exact h _ rfl

namespace FaultsOnly

variable {kinds : List ErrorKind} {addr : Byte}

theorem of_respond {r : Except BlockError Value} (hexec : ∀ s, exec i s = respond s r) (h : RaisesOnly kinds r) :
    FaultsOnly kinds i := by
  intro s s' e hnext hpc hstatus
  obtain rfl := respond_next.mp ((hexec s).symm.trans hnext)
  exact h.kind_mem hpc hstatus

/-- A GET adds the bus's error to its decode's (R241). -/
theorem of_getGroup {n : Nat} {dec : State → Buf → Except BlockError Value}
    (hexec : ∀ s, exec i s = getGroup s addr n (dec s)) (h : ∀ s buf, RaisesOnly kinds (dec s buf)) :
    FaultsOnly (.busError :: kinds) i := by
  intro s s' e hnext hpc hstatus
  obtain ⟨reply, -, rfl⟩ := getGroup_next ((hexec s).symm.trans hnext)
  cases reply with
  | ok buf => exact List.mem_cons_of_mem _ ((h s buf).kind_mem hpc hstatus)
  | error m =>
    cases hstatus
    exact List.mem_cons_self

/-- A SET adds the bus's error to its encode's (R241). -/
theorem of_setRange {enc : State → Except BlockError Buf} (hexec : ∀ s, exec i s = setRange s addr (enc s))
    (h : ∀ s, RaisesOnly kinds (enc s)) : FaultsOnly (.busError :: kinds) i := by
  intro s s' e hnext hpc hstatus
  rcases setRange_next ((hexec s).symm.trans hnext) with ⟨e', henc, rfl⟩ | ⟨v, reply, -, -, rfl⟩
  · cases hstatus
    exact List.mem_cons_of_mem _ (h s e henc)
  · cases reply with
    | ok v => exact absurd hpc (Nat.succ_ne_self s.pc)
    | error m =>
      cases hstatus
      exact List.mem_cons_self

end FaultsOnly

/-- The cause table lists each of `kinds` for the selector of `i` (R241). -/
def listed (i : Instr) (kinds : List ErrorKind) : Bool :=
  kinds.all fun k => (raisedBy (errorCode k)).contains (encode i).sel.toNat

/-- Every operation raises only what the cause table lists: a Codec operation what its codec raises, a GET or a SET the
bus's error too. -/
theorem faultsOnly_listed (i : Instr) : ∃ kinds, FaultsOnly kinds i ∧ listed i kinds = true := by
  cases i with
  | bitsExtract b f => exact ⟨_, .of_respond (fun _ => rfl) ((raisesOnly_bitsExtract b f).map _), rfl⟩
  | bitsPack fs vs => exact ⟨_, .of_respond (fun _ => rfl) ((raisesOnly_bitsPack fs vs).map _), rfl⟩
  | bcdDecode b t u => exact ⟨_, .of_respond (fun _ => rfl) ((raisesOnly_bcdDecode b t u).map _), rfl⟩
  | bcdEncode v t u => exact ⟨_, .of_respond (fun _ => rfl) ((raisesOnly_bcdEncode v t u).map _), rfl⟩
  | tc7Decode raw => exact ⟨_, .of_respond (fun _ => rfl) ((raisesOnly_tc7Decode raw).map _), rfl⟩
  | tc7Encode v => exact ⟨_, .of_respond (fun _ => rfl) ((raisesOnly_tc7Encode v).map _), rfl⟩
  | yearEncode y c => exact ⟨_, .of_respond (fun _ => rfl) ((raisesOnly_yearEncode y c).map _), rfl⟩
  | yearDecode | hourTo24 | weekdayName | monthName =>
    exact ⟨[], .of_respond (fun _ => rfl) (raisesOnly_ok _), rfl⟩
  | control1Decode | control2Decode | control3Decode | profileDecode | timeDecode | alarmMinuteDecode
  | alarmHourDecode | alarmDayDecode | alarmWeekdayDecode | alarmDecode | timerControlDecode | timerAFreqDecode
  | timerBFreqDecode | timerValueDecode | timerBlockDecode =>
    exact ⟨_, .of_respond (fun _ => rfl) ((raisesOnly_needLength _ _ _).map _), rfl⟩
  | control1Encode c => exact ⟨_, .of_respond (fun _ => rfl) ((raisesOnly_control1Encode c).map _), rfl⟩
  | control2Encode c => exact ⟨_, .of_respond (fun _ => rfl) ((raisesOnly_control2Encode c).map _), rfl⟩
  | control3Encode c => exact ⟨_, .of_respond (fun _ => rfl) ((raisesOnly_control3Encode c).map _), rfl⟩
  | timeEncode t m c => exact ⟨_, .of_respond (fun _ => rfl) ((raisesOnly_timeEncode t m c).map _), rfl⟩
  | alarmMinuteEncode a => exact ⟨_, .of_respond (fun _ => rfl) ((raisesOnly_alarmMinuteEncode a).map _), rfl⟩
  | alarmHourEncode a m => exact ⟨_, .of_respond (fun _ => rfl) ((raisesOnly_alarmHourEncode a m).map _), rfl⟩
  | alarmDayEncode a => exact ⟨_, .of_respond (fun _ => rfl) ((raisesOnly_alarmDayEncode a).map _), rfl⟩
  | alarmWeekdayEncode a => exact ⟨_, .of_respond (fun _ => rfl) ((raisesOnly_alarmWeekdayEncode a).map _), rfl⟩
  | alarmEncode a m => exact ⟨_, .of_respond (fun _ => rfl) ((raisesOnly_alarmEncode a m).map _), rfl⟩
  | offsetDecode buf => exact ⟨_, .of_respond (fun _ => rfl) (raisesOnly_map_offsetDecode buf), rfl⟩
  | offsetEncode o => exact ⟨_, .of_respond (fun _ => rfl) ((raisesOnly_offsetEncode o).map _), rfl⟩
  | timerControlEncode c => exact ⟨_, .of_respond (fun _ => rfl) ((raisesOnly_timerControlEncode c).map _), rfl⟩
  | timerAFreqEncode f => exact ⟨_, .of_respond (fun _ => rfl) ((raisesOnly_timerAFreqEncode f).map _), rfl⟩
  | timerBFreqEncode f => exact ⟨_, .of_respond (fun _ => rfl) ((raisesOnly_timerBFreqEncode f).map _), rfl⟩
  | timerValueEncode v => exact ⟨_, .of_respond (fun _ => rfl) ((raisesOnly_timerValueEncode v).map _), rfl⟩
  | timerBlockEncode t => exact ⟨_, .of_respond (fun _ => rfl) ((raisesOnly_timerBlockEncode t).map _), rfl⟩
  | timerDuration c t => exact ⟨_, .of_respond (fun _ => rfl) ((raisesOnly_timerDuration c t).map _), rfl⟩
  | getProfile | getTime | getAlarm | getTimer =>
    exact ⟨_, .of_getGroup (fun _ => rfl) fun _ _ => (raisesOnly_needLength _ _ _).map _, rfl⟩
  | getOffset => exact ⟨_, .of_getGroup (fun _ => rfl) fun _ => raisesOnly_map_offsetDecode, rfl⟩
  | setControl1 c => exact ⟨_, .of_setRange (fun _ => rfl) fun _ => raisesOnly_control1Encode c, rfl⟩
  | setControl2 c => exact ⟨_, .of_setRange (fun _ => rfl) fun _ => raisesOnly_control2Encode c, rfl⟩
  | setControl3 c => exact ⟨_, .of_setRange (fun _ => rfl) fun _ => raisesOnly_control3Encode c, rfl⟩
  | setTime t m c => exact ⟨_, .of_setRange (fun _ => rfl) fun _ => raisesOnly_timeEncode t _ _, rfl⟩
  | setAlarm a m => exact ⟨_, .of_setRange (fun _ => rfl) fun _ => raisesOnly_alarmEncode a _, rfl⟩
  | setOffset o => exact ⟨_, .of_setRange (fun _ => rfl) fun _ => raisesOnly_offsetEncode o, rfl⟩
  | setTimer t => exact ⟨_, .of_setRange (fun _ => rfl) fun _ => raisesOnly_timerBlockEncode t, rfl⟩
  | setTimerControl c => exact ⟨_, .of_setRange (fun _ => rfl) fun _ => raisesOnly_timerControlEncode c, rfl⟩
  | setTimerAFreq f => exact ⟨_, .of_setRange (fun _ => rfl) fun _ => raisesOnly_timerAFreqEncode f, rfl⟩
  | setTimerBFreq f => exact ⟨_, .of_setRange (fun _ => rfl) fun _ => raisesOnly_timerBFreqEncode f, rfl⟩
  | setTimerAValue v | setTimerBValue v =>
    exact ⟨_, .of_setRange (fun _ => rfl) fun _ => raisesOnly_timerValueEncode v, rfl⟩
  | softReset => exact ⟨[.busError], .of_setRange exec_softReset fun _ => raisesOnly_ok _, rfl⟩

theorem sel_mem_raisedBy (h : exec i s = .next s') (hpc : s'.pc = s.pc) (hstatus : s'.status = .faulted e) :
    (encode i).sel.toNat ∈ raisedBy (errorCode e.kind) := by
  obtain ⟨kinds, hfaults, hlisted⟩ := faultsOnly_listed i
  exact List.contains_iff_mem.mp (List.all_eq_true.mp hlisted _ (hfaults h hpc hstatus))

/-- Settles O60: the operations by the cause table, codes 7 and 5 by dispatch's first two checks. -/
theorem errorCodes : Obligations.ErrorCodes := by
  unfold Obligations.ErrorCodes
  refine ⟨rfl, fun i s s' e => sel_mem_raisedBy, fun s r hrun hfetch => ?_⟩
  refine ⟨fun hillegal => ?_, fun hlegal hu => ?_⟩
  · exact ⟨_, _, step_illegal hrun hfetch ((illegalSel_iff_unassigned r.sel).mp hillegal), rfl, rfl, rfl⟩
  · exact ⟨_, _, step_unimplemented hrun hfetch ((not_illegalSel_iff_assigned r.sel).mp hlegal) hu, rfl, rfl, rfl⟩

end Sys2Proof.Proofs
end

section
/-! Construction and reset (70_reset_and_hazards.md R260, R261): the block that construction gives has issued no
transaction and has no request to perform, so the invariant holds of it, whatever the construction arguments are. -/

namespace Sys2Proof.Proofs

open Sys2Proof.Machine

/-- An image that lists nothing is zero everywhere (log 4). -/
theorem readByte_nil (a : Nat) : Memory.readByte [] a = 0 := rfl

/-- An image that lists nothing is canonical. -/
theorem wf_nil : Memory.wf [] = true := rfl

/-- A constructed block. The invariant is proved of every one, because the arguments of reset are constants without a
body (log 1). -/
def Constructed (s : State) : Prop :=
  ∃ century mode bus unimplemented, s = State.construct century mode bus unimplemented

theorem constructed_reset : Constructed State.reset := ⟨_, _, _, _, rfl⟩

namespace Constructed

variable {s : State}

theorem busLog_eq_nil (h : Constructed s) : s.busLog = [] := by
  obtain ⟨century, mode, bus, unimplemented, rfl⟩ := h
  rfl

theorem img_eq_nil (h : Constructed s) : s.img = [] := by
  obtain ⟨century, mode, bus, unimplemented, rfl⟩ := h
  rfl

/-- The run of no requests has its index at the program's end (log 6). -/
theorem fetch_eq_none (h : Constructed s) : fetch s = none := by
  obtain ⟨century, mode, bus, unimplemented, rfl⟩ := h
  exact fetch_eq_none_iff.mpr (Nat.le_refl 0)

/-- No result, index zero, a running status. -/
theorem bookkeeping (h : Constructed s) : Bookkeeping s := by
  obtain ⟨century, mode, bus, unimplemented, rfl⟩ := h
  exact ⟨rfl, Nat.le_refl 0, rfl⟩

theorem inv (h : Constructed s) : s.Inv := by
  obtain ⟨htrace, hpc, hstatus⟩ := h.bookkeeping
  have himg : s.img.wf = true := by rw [h.img_eq_nil, wf_nil]
  have hlog : s.busLog.all transactionAllowed = true := by rw [h.busLog_eq_nil, List.all_nil]
  exact ⟨htrace, hpc, hstatus, himg, hlog⟩

end Constructed

/-- Settles O1: the bus and the configuration are the arguments; traffic, image and program start empty. -/
theorem constructionIssuesNoTransaction : Obligations.ConstructionIssuesNoTransaction := by
  unfold Obligations.ConstructionIssuesNoTransaction
  intro century mode bus unimplemented
  have hconstructed : Constructed (State.construct century mode bus unimplemented) := ⟨_, _, _, _, rfl⟩
  refine ⟨hconstructed.busLog_eq_nil, rfl, rfl, fun a => ?_, hconstructed.fetch_eq_none⟩
  rw [hconstructed.img_eq_nil, readByte_nil]

/-- Settles O2: reset is a construction, and the invariant holds of every constructed block. -/
theorem resetMeetsInvariant : Obligations.ResetMeetsInvariant := by
  unfold Obligations.ResetMeetsInvariant
  exact constructed_reset.inv

end Sys2Proof.Proofs
end
